-- ==== Sys2Proof/Word.lean ====
section
/-! DEFINITION. The word types of the machine (spec/00_scope.md R5, R6). -/

namespace Sys2Proof

/-- A cell: 32 bits, the width of every register (00_scope.md R4). -/
abbrev Word := BitVec 32

/-- An opcode, a byte of memory, or an eight-bit resource register. -/
abbrev Byte := BitVec 8

/-- `TRUE` of 00_scope.md R6. -/
abbrev Word.allOnes : Word := 0xFFFFFFFF#32

end Sys2Proof
end

