-- ==== Sys2Proof/Config.lean ====
section
/-! DEFINITION. What the spec leaves open: the parameters of spec/92_eei_decisions.md and the free values. A constant
declared `opaque` has no body, so nothing can be proved about its value. -/

namespace Sys2Proof

/-- The eleven traps that can be pending at the completion of an instruction (60_exceptions.md R450, R470: every trap
but breakpoint, which is its instruction's own action). -/
inductive Trap where
  | osOvf | osUnf | lsOvf | lsUnf
  | memFault
  | fpExp | fpUnf | fpOvf | fpNrm | fpRnd
  | step
  deriving DecidableEq, Repr

/-- The place of a trap in the listing of R450; it only breaks ties. -/
def Trap.index : Trap → Nat
  | .osOvf => 10 | .osUnf => 9 | .lsOvf => 8 | .lsUnf => 7
  | .memFault => 6
  | .fpExp => 5 | .fpUnf => 4 | .fpOvf => 3 | .fpRnd => 2 | .fpNrm => 1
  | .step => 0

namespace Config

/-- A free value: the n-th word that the spec leaves unspecified (93_implementation_defined.md, treatment "any value";
log 30). -/
opaque freeWord : Nat → Word

/-- Whether the n-th interrupt recognition made right after `ei`, `di` or `pop mode` sees the new `interrupt_en`
(10_state.md R66, D13; log 14). -/
opaque seesNewEnable : Nat → Bool

/-- Bits 31:2 of the address of a trap's executable-code vector, for the ten traps whose vector was only in the lost
Figure 3 (D1; log 11). -/
opaque trapVectorCell : Trap → BitVec 30

/-- Bits 31:2 of `VEC_INT[i]` (D1; log 11). -/
opaque interruptVectorCell : Fin 8 → BitVec 30

/-- The open part of `TRAP_PRIORITY` (D2; log 12): a larger key is a higher priority within a class. -/
opaque trapKey : Trap → Fin 16

/-- `MSPWE_BIT`: the bit of `miscc` that holds `mspwe` (D9; log 13). -/
opaque mspweBit : Fin 32

end Config

end Sys2Proof
end

