-- ==== Sys2Proof/Syntax.lean ====
section
/-! DEFINITION. The instructions: one constructor per row of spec/opcode_table.json, in the table's order, aliases and
unassigned values included (log 25, log 33). -/

namespace Sys2Proof

/-- The signed cell offset of an OFFSET instruction: 27, 19, 11 or 3 bits as the opcode stands at byte 0, 1, 2 or 3 of
its group (30_encoding.md R122, R123). -/
inductive Offset where
  | w27 (d : BitVec 27)
  | w19 (d : BitVec 19)
  | w11 (d : BitVec 11)
  | w3 (d : BitVec 3)
  deriving DecidableEq, Repr

/-- One constructor per row of spec/opcode_table.json. The data cell of `push.l` is read when the instruction executes
(R127), so it is no operand here. -/
inductive Instr where
  /-- `br offset`: 00000ooo (R231). -/
  | brOffset (o : Offset)
  /-- `call offset`: 00001ooo (R234). -/
  | callOffset (o : Offset)
  /-- `bz offset`: 00010ooo (R232). -/
  | bzOffset (o : Offset)
  /-- `dbr offset`: 00011ooo (R233). -/
  | dbrOffset (o : Offset)
  /-- `push.n #n`: 0010nnnn (R280). -/
  | pushN (n : BitVec 4)
  /-- `skip`: 00110000 (R240). -/
  | skip
  /-- `skipc`: 00110001 (R241). -/
  | skipc
  /-- `skipn`: 00110010 (R242). -/
  | skipn
  /-- `skipnp`, another name of `skipn`: 00110010 (R242). -/
  | skipnp
  /-- `skipz`: 00110011 (R243). -/
  | skipz
  /-- `step`: 00110100 (R431). -/
  | step
  /-- `skipnc`: 00110101 (R244). -/
  | skipnc
  /-- `skipnn`: 00110110 (R245). -/
  | skipnn
  /-- `skipp`, another name of `skipnn`: 00110110 (R245). -/
  | skipp
  /-- `skipnz`: 00110111 (R246). -/
  | skipnz
  /-- `mloop`: 00111000 (R248). -/
  | mloop
  /-- `mloopc`: 00111001 (R249). -/
  | mloopc
  /-- `mloopn`: 00111010 (R250). -/
  | mloopn
  /-- `mloopnp`, another name of `mloopn`: 00111010 (R250). -/
  | mloopnp
  /-- `mloopz`: 00111011 (R251). -/
  | mloopz
  /-- `bkpt`: 00111100 (R430). -/
  | bkpt
  /-- `mloopnc`: 00111101 (R252). -/
  | mloopnc
  /-- `mloopnn`: 00111110 (R253). -/
  | mloopnn
  /-- `mloopp`, another name of `mloopnn`: 00111110 (R253). -/
  | mloopp
  /-- `mloopnz`: 00111111 (R254). -/
  | mloopnz
  /-- `ld []`: 01000000 (R337). -/
  | ldS0
  /-- `ld [x]`: 01000001 (R336). -/
  | ldX
  /-- `ld [r0]`: 01000010 (R334). -/
  | ldR0
  /-- `an unassigned value`: 01000011 (R140). -/
  | unassigned43
  /-- `ld [--r0]`: 01000100 (R331). -/
  | ldDecR0
  /-- `scache`: 01000101 (R363). -/
  | scache
  /-- `ld [r0++]`: 01000110 (R333). -/
  | ldR0Inc
  /-- `an unassigned value`: 01000111 (R140). -/
  | unassigned47
  /-- `ld.b []`: 01001000 (R338). -/
  | ldB
  /-- `ld [x++]`: 01001001 (R335). -/
  | ldXInc
  /-- `ld [--x]`: 01001010 (R332). -/
  | ldDecX
  /-- `br []`: 01001011 (R235). -/
  | brIndirect
  /-- `ld.w []`: 01001100 (R339). -/
  | ldW
  /-- `lcache`: 01001101 (R362). -/
  | lcache
  /-- `call []`: 01001110 (R236). -/
  | callIndirect
  /-- `push.l #n`: 01001111 (R282). -/
  | pushL
  /-- `pop gi`: 0101iiii (R292). -/
  | popG (i : Fin 16)
  /-- `st []`: 01100000 (R346). -/
  | stS0
  /-- `st [x]`: 01100001 (R345). -/
  | stX
  /-- `st [r0]`: 01100010 (R343). -/
  | stR0
  /-- `an unassigned value`: 01100011 (R140). -/
  | unassigned63
  /-- `st [--r0]`: 01100100 (R340). -/
  | stDecR0
  /-- `an unassigned value`: 01100101 (R140). -/
  | unassigned65
  /-- `st [r0++]`: 01100110 (R342). -/
  | stR0Inc
  /-- `an unassigned value`: 01100111 (R140). -/
  | unassigned67
  /-- `st [--x]`: 01101000 (R341). -/
  | stDecX
  /-- `st [x++]`: 01101001 (R344). -/
  | stXInc
  /-- `an unassigned value`: 01101010 (R140). -/
  | unassigned6A
  /-- `an unassigned value`: 01101011 (R140). -/
  | unassigned6B
  /-- `an unassigned value`: 01101100 (R140). -/
  | unassigned6C
  /-- `an unassigned value`: 01101101 (R140). -/
  | unassigned6D
  /-- `ret`: 01101110 (R237). -/
  | ret
  /-- `reti`: 01101111 (R238). -/
  | reti
  /-- `push gi`: 0111iiii (R291). -/
  | pushG (i : Fin 16)
  /-- `push ri`: 1000iiii (R293). -/
  | pushR (i : Fin 16)
  /-- `an unassigned value`: 10001111 (R140). -/
  | unassigned8F
  /-- `push.b #n`: 10010000 (R281). -/
  | pushB (n : Byte)
  /-- `push mode`: 10010001 (R299). -/
  | pushMode
  /-- `push`: 10010010 (R301). -/
  | pushDup
  /-- `push s0`, another name of `push`: 10010010 (R301). -/
  | pushS0
  /-- `push s1`: 10010011 (R302). -/
  | pushS1
  /-- `push ct`: 10010100 (R295). -/
  | pushCt
  /-- `sexw`: 10010101 (R396). -/
  | sexw
  /-- `ldo []`: 10010110 (R432). -/
  | ldo
  /-- `ldo.i []`: 10010111 (R433). -/
  | ldoI
  /-- `push x`: 10011000 (R297). -/
  | pushX
  /-- `split`: 10011001 (R397). -/
  | split
  /-- `push lstack`: 10011010 (R307). -/
  | pushLstack
  /-- `ldepth`: 10011011 (R360). -/
  | ldepth
  /-- `push sa`: 10011100 (R368). -/
  | pushSa
  /-- `push la`: 10011101 (R369). -/
  | pushLa
  /-- `push s2`: 10011110 (R303). -/
  | pushS2
  /-- `sdepth`: 10011111 (R361). -/
  | sdepth
  /-- `pop ri`: 1010iiii (R294). -/
  | popR (i : Fin 16)
  /-- `an unassigned value`: 10101111 (R140). -/
  | unassignedAF
  /-- `sto []`: 10110000 (R434). -/
  | sto
  /-- `sto.i []`: 10110001 (R435). -/
  | stoI
  /-- `xcg`: 10110010 (R305). -/
  | xcg
  /-- `pop`: 10110011 (R304). -/
  | popDrop
  /-- `pop ct`: 10110100 (R296). -/
  | popCt
  /-- `replexp`: 10110101 (R407). -/
  | replexp
  /-- `ei`: 10110110 (R436). -/
  | ei
  /-- `di`: 10110111 (R437). -/
  | di
  /-- `pop x`: 10111000 (R298). -/
  | popX
  /-- `pop mode`: 10111001 (R300). -/
  | popMode
  /-- `pop lstack`: 10111010 (R308). -/
  | popLstack
  /-- `add pc`: 10111011 (R162). -/
  | addPc
  /-- `pop sa`: 10111100 (R366). -/
  | popSa
  /-- `pop la`: 10111101 (R367). -/
  | popLa
  /-- `lframe`: 10111110 (R364). -/
  | lframe
  /-- `sframe`: 10111111 (R365). -/
  | sframe
  /-- `add`: 11000000 (R161). -/
  | add
  /-- `dec ct,#1`: 11000001 (R174). -/
  | decCt
  /-- `addc`: 11000010 (R164). -/
  | addc
  /-- `xor`: 11000011 (R178). -/
  | xor
  /-- `expdif`: 11000100 (R404). -/
  | expdif
  /-- `denorm`: 11000101 (R409). -/
  | denorm
  /-- `normr`: 11000110 (R410). -/
  | normr
  /-- `norml`: 11000111 (R412). -/
  | norml
  /-- `sub`: 11001000 (R165). -/
  | sub
  /-- `neg`: 11001001 (R169). -/
  | neg
  /-- `subb`: 11001010 (R166). -/
  | subb
  /-- `cmp`: 11001011 (R167). -/
  | cmp
  /-- `inc #4`: 11001100 (R171). -/
  | inc4
  /-- `dec #4`: 11001101 (R173). -/
  | dec4
  /-- `inc #1`: 11001110 (R170). -/
  | inc1
  /-- `dec #1`: 11001111 (R172). -/
  | dec1
  /-- `copyb`: 11010000 (R391). -/
  | copyb
  /-- `rnd`: 11010001 (R413). -/
  | rnd
  /-- `addexp`: 11010010 (R402). -/
  | addexp
  /-- `subexp`: 11010011 (R403). -/
  | subexp
  /-- `testexp`: 11010100 (R408). -/
  | testexp
  /-- `muls`: 11010101 (R211). -/
  | muls
  /-- `mulfs`: 11010110 (R212). -/
  | mulfs
  /-- `mulu`: 11010111 (R210). -/
  | mulu
  /-- `sexb`: 11011000 (R395). -/
  | sexb
  /-- `testb`: 11011001 (R392). -/
  | testb
  /-- `replb`: 11011010 (R393). -/
  | replb
  /-- `extexp`: 11011011 (R405). -/
  | extexp
  /-- `extsig`: 11011100 (R406). -/
  | extsig
  /-- `notc`: 11011101 (R180). -/
  | notc
  /-- `divu`: 11011110 (R213). -/
  | divu
  /-- `mxm`: 11011111 (R168). -/
  | mxm
  /-- `or`: 11100000 (R177). -/
  | or
  /-- `and`: 11100001 (R176). -/
  | and
  /-- `shl #1`: 11100010 (R201). -/
  | shl1
  /-- `shr #1`: 11100011 (R204). -/
  | shr1
  /-- `rev`: 11100100 (R306). -/
  | rev
  /-- `eqz`: 11100101 (R175). -/
  | eqz
  /-- `shld #1`: 11100110 (R203). -/
  | shld1
  /-- `shrd #1`: 11100111 (R206). -/
  | shrd1
  /-- `adda`: 11101000 (R163). -/
  | adda
  /-- `iand`: 11101001 (R179). -/
  | iand
  /-- `nop`: 11101010 (R181). -/
  | nop
  /-- `replw`: 11101011 (R394). -/
  | replw
  /-- `shl #8`: 11101100 (R202). -/
  | shl8
  /-- `shr #8`: 11101101 (R205). -/
  | shr8
  /-- `shift`: 11101110 (R208). -/
  | shift
  /-- `shiftd`: 11101111 (R209). -/
  | shiftd
  /-- `an unassigned value`: 1111xxxx (R140). -/
  | unassignedF (low : BitVec 4)
  deriving DecidableEq, Repr

end Sys2Proof
end

