-- ==== Sys2Proof/WellFormed.lean ====
section
/-! DEFINITION. Which instructions are well formed, and at which byte of a group each may stand (30_encoding.md R121,
R122, R126, R128). -/

namespace Sys2Proof

/-- The byte position an offset's width belongs to (R123, Table 5). -/
def Offset.position : Offset → BitVec 2
  | .w27 _ => 0
  | .w19 _ => 1
  | .w11 _ => 2
  | .w3 _ => 3

/-- Well formed: a local register number is 0 to 14, since 0x8F and 0xAF are unassigned (R128, R140). -/
def Instr.wf : Instr → Bool
  | .pushR i => decide (i.val < 15)
  | .popR i => decide (i.val < 15)
  | _ => true

/-- Well formed and able to stand at byte `p` of a group: an OFFSET instruction only where its offset has its width
(R122), `push.b` only at byte 0, 1 or 2 (R126). -/
def Instr.fitsAt (i : Instr) (p : BitVec 2) : Bool :=
  i.wf &&
  match i with
  | .brOffset o => o.position == p
  | .callOffset o => o.position == p
  | .bzOffset o => o.position == p
  | .dbrOffset o => o.position == p
  | .pushB _ => p != 3
  | _ => true

/-- The instruction an alias is another name of (R131); every other instruction is itself. -/
def Instr.core : Instr → Instr
  | .skipnp => .skipn
  | .skipp => .skipnn
  | .mloopnp => .mloopn
  | .mloopp => .mloopnn
  | .pushS0 => .pushDup
  | i => i

end Sys2Proof
end

