-- ==== Sys2Proof/Decode.lean ====
section
/-! DEFINITION. The decoder and, after it, the encoder, both written from the opcode map of spec/30_encoding.md (R120 to
R132, R140). -/

namespace Sys2Proof

/-- Why a byte is no instruction where it stands. -/
inductive DecodeError where
  /-- 0x90 (`push.b`) at byte 3 of a group, where it has no literal byte (93_implementation_defined.md U11). -/
  | noLiteralByte
  deriving DecidableEq, Repr

/-- Byte `p` of a group: byte 0 is bits 31:24 (R120). -/
def groupByte (g : Word) (p : BitVec 2) : Byte :=
  if p = 0 then g.extractLsb' 24 8
  else if p = 1 then g.extractLsb' 16 8
  else if p = 2 then g.extractLsb' 8 8
  else g.extractLsb' 0 8

/-- The offset of an OFFSET opcode at byte `p`: the low `27 - 8p` bits of the group (R122). -/
def offsetAt (g : Word) (p : BitVec 2) : Offset :=
  if p = 0 then .w27 (g.extractLsb' 0 27)
  else if p = 1 then .w19 (g.extractLsb' 0 19)
  else if p = 2 then .w11 (g.extractLsb' 0 11)
  else .w3 (g.extractLsb' 0 3)

/-- Row 3 of the opcode map (R130). -/
def opcodeRow3 : List Instr :=
  [.skip, .skipc, .skipn, .skipz, .step, .skipnc, .skipnn, .skipnz,
   .mloop, .mloopc, .mloopn, .mloopz, .bkpt, .mloopnc, .mloopnn, .mloopnz]

/-- Row 4 of the opcode map (R130). -/
def opcodeRow4 : List Instr :=
  [.ldS0, .ldX, .ldR0, .unassigned43, .ldDecR0, .scache, .ldR0Inc, .unassigned47,
   .ldB, .ldXInc, .ldDecX, .brIndirect, .ldW, .lcache, .callIndirect, .pushL]

/-- Row 6 of the opcode map (R130). -/
def opcodeRow6 : List Instr :=
  [.stS0, .stX, .stR0, .unassigned63, .stDecR0, .unassigned65, .stR0Inc, .unassigned67,
   .stDecX, .stXInc, .unassigned6A, .unassigned6B, .unassigned6C, .unassigned6D, .ret, .reti]

/-- Row 9 of the opcode map (R130); `literal` is the byte literal of `push.b`. -/
def opcodeRow9 (literal : Byte) : List Instr :=
  [.pushB literal, .pushMode, .pushDup, .pushS1, .pushCt, .sexw, .ldo, .ldoI,
   .pushX, .split, .pushLstack, .ldepth, .pushSa, .pushLa, .pushS2, .sdepth]

/-- Row B of the opcode map (R130). -/
def opcodeRowB : List Instr :=
  [.sto, .stoI, .xcg, .popDrop, .popCt, .replexp, .ei, .di,
   .popX, .popMode, .popLstack, .addPc, .popSa, .popLa, .lframe, .sframe]

/-- Row C of the opcode map (R130). -/
def opcodeRowC : List Instr :=
  [.add, .decCt, .addc, .xor, .expdif, .denorm, .normr, .norml,
   .sub, .neg, .subb, .cmp, .inc4, .dec4, .inc1, .dec1]

/-- Row D of the opcode map (R130). -/
def opcodeRowD : List Instr :=
  [.copyb, .rnd, .addexp, .subexp, .testexp, .muls, .mulfs, .mulu,
   .sexb, .testb, .replb, .extexp, .extsig, .notc, .divu, .mxm]

/-- Row E of the opcode map (R130). -/
def opcodeRowE : List Instr :=
  [.or, .and, .shl1, .shr1, .rev, .eqz, .shld1, .shrd1,
   .adda, .iand, .nop, .replw, .shl8, .shr8, .shift, .shiftd]

/-- The instruction a whole-byte opcode stands for, by its high nibble (R130). Rows 0 and 1 are the OFFSET opcodes,
which `decode` reads. `literal` is byte 3 of the group. -/
def decodeOpcode (b : Byte) (literal : Byte) : Instr :=
  let lo := b.extractLsb' 0 4
  let row (r : List Instr) : Instr := r.getD lo.toNat .nop
  match (b.extractLsb' 4 4).toNat with
  | 0x2 => .pushN lo
  | 0x3 => row opcodeRow3
  | 0x4 => row opcodeRow4
  | 0x5 => .popG lo.toFin
  | 0x6 => row opcodeRow6
  | 0x7 => .pushG lo.toFin
  | 0x8 => if lo = 15 then .unassigned8F else .pushR lo.toFin
  | 0x9 => row (opcodeRow9 literal)
  | 0xA => if lo = 15 then .unassignedAF else .popR lo.toFin
  | 0xB => row opcodeRowB
  | 0xC => row opcodeRowC
  | 0xD => row opcodeRowD
  | 0xE => row opcodeRowE
  | _ => .unassignedF lo

/-- The instruction whose opcode is byte `p` of the group `g`. Total: every byte decodes at every place but 0x90 at
byte 3 (U11), which is rejected by name. -/
def decode (g : Word) (p : BitVec 2) : Except DecodeError Instr :=
  let b := groupByte g p
  let top := b.extractLsb' 3 5
  if top = 0 then .ok (.brOffset (offsetAt g p))
  else if top = 1 then .ok (.callOffset (offsetAt g p))
  else if top = 2 then .ok (.bzOffset (offsetAt g p))
  else if top = 3 then .ok (.dbrOffset (offsetAt g p))
  else if b = 0x90 ∧ p = 3 then .error .noLiteralByte
  else .ok (decodeOpcode b (groupByte g 3))

/-! The encoder. -/

/-- `g` with its byte `p` replaced by `b`. -/
def placeByte (p : BitVec 2) (b : Byte) (g : Word) : Word :=
  if p = 0 then b ++ g.extractLsb' 0 24
  else if p = 1 then g.extractLsb' 24 8 ++ b ++ g.extractLsb' 0 16
  else if p = 2 then g.extractLsb' 16 16 ++ b ++ g.extractLsb' 0 8
  else g.extractLsb' 8 24 ++ b

/-- `g` with an OFFSET opcode (its five fixed bits `op`) and its offset put where the offset's width says (R122). -/
def placeOffset (op : BitVec 5) (o : Offset) (g : Word) : Word :=
  match o with
  | .w27 d => op ++ d
  | .w19 d => g.extractLsb' 24 8 ++ op ++ d
  | .w11 d => g.extractLsb' 16 16 ++ op ++ d
  | .w3 d => g.extractLsb' 8 24 ++ op ++ d

/-- The opcode byte of an instruction; for an OFFSET instruction, the byte whose low three bits are zero. -/
def opcodeByte : Instr → Byte
  | .brOffset _ => 0x00
  | .callOffset _ => 0x08
  | .bzOffset _ => 0x10
  | .dbrOffset _ => 0x18
  | .pushN n => 0x2#4 ++ n
  | .skip => 0x30
  | .skipc => 0x31
  | .skipn => 0x32
  | .skipnp => 0x32
  | .skipz => 0x33
  | .step => 0x34
  | .skipnc => 0x35
  | .skipnn => 0x36
  | .skipp => 0x36
  | .skipnz => 0x37
  | .mloop => 0x38
  | .mloopc => 0x39
  | .mloopn => 0x3A
  | .mloopnp => 0x3A
  | .mloopz => 0x3B
  | .bkpt => 0x3C
  | .mloopnc => 0x3D
  | .mloopnn => 0x3E
  | .mloopp => 0x3E
  | .mloopnz => 0x3F
  | .ldS0 => 0x40
  | .ldX => 0x41
  | .ldR0 => 0x42
  | .unassigned43 => 0x43
  | .ldDecR0 => 0x44
  | .scache => 0x45
  | .ldR0Inc => 0x46
  | .unassigned47 => 0x47
  | .ldB => 0x48
  | .ldXInc => 0x49
  | .ldDecX => 0x4A
  | .brIndirect => 0x4B
  | .ldW => 0x4C
  | .lcache => 0x4D
  | .callIndirect => 0x4E
  | .pushL => 0x4F
  | .popG i => 0x5#4 ++ BitVec.ofNat 4 i.val
  | .stS0 => 0x60
  | .stX => 0x61
  | .stR0 => 0x62
  | .unassigned63 => 0x63
  | .stDecR0 => 0x64
  | .unassigned65 => 0x65
  | .stR0Inc => 0x66
  | .unassigned67 => 0x67
  | .stDecX => 0x68
  | .stXInc => 0x69
  | .unassigned6A => 0x6A
  | .unassigned6B => 0x6B
  | .unassigned6C => 0x6C
  | .unassigned6D => 0x6D
  | .ret => 0x6E
  | .reti => 0x6F
  | .pushG i => 0x7#4 ++ BitVec.ofNat 4 i.val
  | .pushR i => 0x8#4 ++ BitVec.ofNat 4 i.val
  | .unassigned8F => 0x8F
  | .pushB _ => 0x90
  | .pushMode => 0x91
  | .pushDup => 0x92
  | .pushS0 => 0x92
  | .pushS1 => 0x93
  | .pushCt => 0x94
  | .sexw => 0x95
  | .ldo => 0x96
  | .ldoI => 0x97
  | .pushX => 0x98
  | .split => 0x99
  | .pushLstack => 0x9A
  | .ldepth => 0x9B
  | .pushSa => 0x9C
  | .pushLa => 0x9D
  | .pushS2 => 0x9E
  | .sdepth => 0x9F
  | .popR i => 0xA#4 ++ BitVec.ofNat 4 i.val
  | .unassignedAF => 0xAF
  | .sto => 0xB0
  | .stoI => 0xB1
  | .xcg => 0xB2
  | .popDrop => 0xB3
  | .popCt => 0xB4
  | .replexp => 0xB5
  | .ei => 0xB6
  | .di => 0xB7
  | .popX => 0xB8
  | .popMode => 0xB9
  | .popLstack => 0xBA
  | .addPc => 0xBB
  | .popSa => 0xBC
  | .popLa => 0xBD
  | .lframe => 0xBE
  | .sframe => 0xBF
  | .add => 0xC0
  | .decCt => 0xC1
  | .addc => 0xC2
  | .xor => 0xC3
  | .expdif => 0xC4
  | .denorm => 0xC5
  | .normr => 0xC6
  | .norml => 0xC7
  | .sub => 0xC8
  | .neg => 0xC9
  | .subb => 0xCA
  | .cmp => 0xCB
  | .inc4 => 0xCC
  | .dec4 => 0xCD
  | .inc1 => 0xCE
  | .dec1 => 0xCF
  | .copyb => 0xD0
  | .rnd => 0xD1
  | .addexp => 0xD2
  | .subexp => 0xD3
  | .testexp => 0xD4
  | .muls => 0xD5
  | .mulfs => 0xD6
  | .mulu => 0xD7
  | .sexb => 0xD8
  | .testb => 0xD9
  | .replb => 0xDA
  | .extexp => 0xDB
  | .extsig => 0xDC
  | .notc => 0xDD
  | .divu => 0xDE
  | .mxm => 0xDF
  | .or => 0xE0
  | .and => 0xE1
  | .shl1 => 0xE2
  | .shr1 => 0xE3
  | .rev => 0xE4
  | .eqz => 0xE5
  | .shld1 => 0xE6
  | .shrd1 => 0xE7
  | .adda => 0xE8
  | .iand => 0xE9
  | .nop => 0xEA
  | .replw => 0xEB
  | .shl8 => 0xEC
  | .shr8 => 0xED
  | .shift => 0xEE
  | .shiftd => 0xEF
  | .unassignedF low => 0xF#4 ++ low

/-- The group `g` with instruction `i` encoded at byte `p`: an OFFSET instruction takes the rest of the group, `push.b`
takes byte 3 as well (R121). -/
def encodeAt (i : Instr) (p : BitVec 2) (g : Word) : Word :=
  match i with
  | .brOffset o => placeOffset 0 o g
  | .callOffset o => placeOffset 1 o g
  | .bzOffset o => placeOffset 2 o g
  | .dbrOffset o => placeOffset 3 o g
  | .pushB n => placeByte 3 n (placeByte p 0x90 g)
  | i => placeByte p (opcodeByte i) g

/-- The byte an instruction is encoded at when nothing else decides: where its offset has its width, or byte 0. -/
def Instr.homeByte : Instr → BitVec 2
  | .brOffset o => o.position
  | .callOffset o => o.position
  | .bzOffset o => o.position
  | .dbrOffset o => o.position
  | _ => 0

/-- The words of an instruction: one group with the instruction at its home byte and `nop` (0xEA) in every byte it
leaves unused (R129). The literal cell of `push.l` is no part of its opcode's group (R127). -/
def encode (i : Instr) : Word := encodeAt i i.homeByte 0xEAEAEAEA

/-- A group laid out from the numbering of spec/opcode_table.json, in which bit 0 is the least significant bit of the
first byte and later bytes count on: the first byte becomes byte 0 of the group. -/
def tableGroup (nbits w : Nat) : Word :=
  let v : Word := BitVec.ofNat 32 (w % 2 ^ nbits)
  v.extractLsb' 0 8 ++ v.extractLsb' 8 8 ++ v.extractLsb' 16 8 ++ v.extractLsb' 24 8

/-- What the decoder reads from an instruction given in the numbering of spec/opcode_table.json. -/
def decodeTableWord (nbits w : Nat) : Option Instr :=
  match decode (tableGroup nbits w) 0 with
  | .ok i => some i
  | .error _ => none

end Sys2Proof
end

