-- ==== Sys2Proof/Machine/State.lean ====
section
/-! DEFINITION. The state of the machine (spec/10_state.md R20), as plain data, and its value after reset (R70). -/

namespace Sys2Proof.Machine

/-- Why the machine stops for good. -/
inductive Fault where
  /-- The CPU waits in a bus transfer that DVAL never completes, and no reset is to come (20_memory.md R97, U18: the
  machine is stuck). Raised by `step` in such a state. Safe: the hardware makes no progress either. -/
  | busStuck
  deriving DecidableEq, Repr

/-- Why the model makes no claim about what happens next: the program left the behaviour the spec describes. Every
constructor is safe: the hardware does something the model says nothing about. -/
inductive Refusal where
  /-- No meaning yet. Raised only by an arm of `exec` that rejects its instruction by name. Safe. -/
  | notModelled (mnemonic : String)
  /-- One of the 27 unassigned opcode values (R140, U1). Raised by the meanings of the unassigned rows. Safe. -/
  | unassignedOpcode (opcode : Byte)
  /-- Bytes the decoder rejects: `push.b` at byte 3 (U11). Raised by `step`. Safe. -/
  | undecodable (e : DecodeError)
  /-- An instruction that shrinks a stack which is not allocated yet (R29, R527, U3). Raised by the operations that
  shrink a stack. Safe. -/
  | unallocatedStack
  /-- `ldo`, `sto` with an address that is no register, `ldo.i`, `sto.i` with one that is no bit (R51, R52, U6). Safe. -/
  | badResourceAddress
  /-- Control enters a group at byte p > 0 and an earlier byte of it is `push.l` (R256, D24, U9). Raised by the register
  indirect transfers. Safe. -/
  | midGroupAfterLiteral
  /-- A write to the cell at `npc`, which may already be pre-fetched (R93, D26, U10). Raised by stores and spills. Safe. -/
  | storeToPrefetchedCell
  /-- `push.l` executed again by a micro-loop of its group (R247, D24). Safe. -/
  | literalInMicroLoop
  /-- `lcache`, `scache` with a count outside -14 to 14, `lframe`, `sframe` with one outside -15 to 15 (U15). Safe. -/
  | countOutOfRange
  /-- A trap taken at the completion of `step` itself (R466, U16). Raised by the end of the instruction cycle. Safe. -/
  | trapAtStep
  deriving DecidableEq, Repr

/-- One of the two stacks: the operand stack (`os`) or the local-register stack (`ls`). -/
inductive Stk where
  | os | ls
  deriving DecidableEq, Repr

/-- A stack: its on-chip cells, top first (00_scope.md R8; for the operand stack s0, s1, then the array), its memory
pointer `sa` or `la` (R27, R31), and whether it has been allocated since reset (R29). -/
structure Stack where
  cells : List Word
  ptr : Word
  active : Bool
  deriving DecidableEq, Repr

/-- Instruction sequencing (R21 to R25). `grp` is empty only between a reset and the fetch of the first group (log 4). -/
structure Flow where
  pc : Word
  npc : Word
  grp : Option Word
  bytelit : Bool
  deriving DecidableEq, Repr

/-- The on-chip resource registers (R50 to R60) and the latch of the memory-fault registers (R58). Of `miscc` only its
one named bit `mspwe` is state (R60). -/
structure Resources where
  ioin : Byte
  ioip : Byte
  ioius : Byte
  ioout : Byte
  ioie : Byte
  mfltaddr : Word
  mfltdata : Word
  mfltLatched : Bool
  mspwe : Bool
  deriving DecidableEq, Repr

/-- Hidden control state: `int_block` (R65), the `interrupt_en` that held before an `ei`, `di` or `pop mode` just
executed (R66), the `mode` whose trap enables still apply while a `pop mode` completes (44_data_movement.md R300),
`step_pending` (R67), and the set of traps signalled and enabled so far in the current instruction (60_exceptions.md
R472). -/
structure Control where
  intBlock : Bool
  ieOld : Option Bool
  enOld : Option Word
  stepPending : Bool
  pending : List Trap
  deriving DecidableEq, Repr

/-- The platform's answer to one bus transfer (R97, R99, R460): whether DVAL ever completes it, whether *FAULTB is
asserted, whether a write that faults or never ends reaches memory all the same, and, for a posted write, how many instructions complete
before it ends. -/
structure BusAnswer where
  dval : Bool
  faultb : Bool
  lands : Bool
  late : Nat
  deriving DecidableEq, Repr

/-- A posted write in progress (R68): where, what, whether it ever ends, whether it will be reported as a fault, and
after how many instructions it ends unless another transfer needs the bus first. -/
structure PostedWrite where
  addr : Word
  data : Word
  dval : Bool
  faultb : Bool
  late : Nat
  deriving DecidableEq, Repr

/-- What the platform does at the start of one step: the pin samples resolved since the last one (R484; none means that
the last level is sampled once more), and *RESET with its POWER_UP (R520, R521). -/
structure StepInput where
  samples : List Byte
  reset : Option Bool
  deriving DecidableEq, Repr

/-- The platform: the most recent pin sample, the coming inputs, the coming answers to bus transfers, the posted write,
and whether the CPU waits in a transfer that never ends. -/
structure Platform where
  pins : Byte
  env : List StepInput
  bus : List BusAnswer
  posted : Option PostedWrite
  stuck : Bool
  deriving DecidableEq, Repr

/-- The whole state (R20). `free` is the model's own field: it numbers the free values already used (log 30). -/
structure State where
  flow : Flow
  os : Stack
  ls : Stack
  g : Vector Word 16
  x : Word
  ct : Word
  mode : Word
  res : Resources
  ctl : Control
  plat : Platform
  mem : List Host.Cell
  free : Nat
  deriving DecidableEq, Repr

/-- What an instruction or a step answers. -/
abbrev Result := Host.Outcome State Fault Refusal

/-- `f` on the state a result answers; a fault or a refusal stays. -/
def andThen (o : Result) (f : State → Result) : Result :=
  match o with
  | .next s => f s
  | .fault e => .fault e
  | .refused r => .refused r

/-! One named update per field. -/

def State.setFlow (v : Flow) (s : State) : State := { s with flow := v }
def State.setOs (v : Stack) (s : State) : State := { s with os := v }
def State.setLs (v : Stack) (s : State) : State := { s with ls := v }
def State.setG (v : Vector Word 16) (s : State) : State := { s with g := v }
def State.setX (v : Word) (s : State) : State := { s with x := v }
def State.setCt (v : Word) (s : State) : State := { s with ct := v }
def State.setMode (v : Word) (s : State) : State := { s with mode := v }
def State.setRes (v : Resources) (s : State) : State := { s with res := v }
def State.setCtl (v : Control) (s : State) : State := { s with ctl := v }
def State.setPlat (v : Platform) (s : State) : State := { s with plat := v }
def State.setMem (v : List Host.Cell) (s : State) : State := { s with mem := v }
def State.setFree (v : Nat) (s : State) : State := { s with free := v }

/-- The address at which execution starts after reset (70_reset_and_hazards.md R520). -/
def resetAddress : Word := 0x80000008

/-- The state of a reset of the CPU in which `old` is the state before: everything is initialised but memory and the
platform (R70, R520, R522). `powerUp` decides `power_fail` (R47, R521). The group at the reset address is not fetched
yet: the next step fetches it (log 4). Registers that the spec gives no reset value are 0 (log 2). -/
def State.resetFrom (powerUp : Bool) (old : State) : State where
  flow := { pc := resetAddress, npc := resetAddress + 4, grp := none, bytelit := false }
  os := { cells := [0, 0], ptr := 0, active := false }
  ls := { cells := [], ptr := 0, active := false }
  g := Vector.replicate 16 0
  x := 0
  ct := 0
  mode := if powerUp then 0x00004000 else 0
  res := { ioin := 0xFF, ioip := 0, ioius := 0, ioout := 0xFF, ioie := 0, mfltaddr := 0, mfltdata := 0,
           mfltLatched := false, mspwe := false }
  ctl := { intBlock := false, ieOld := none, enOld := none, stepPending := false, pending := [] }
  plat := { old.plat with posted := none, stuck := false }
  mem := old.mem
  free := old.free

/-- The machine right after a reset that is no power-up (log 3): memory lists nothing, the pins are idle, and no input
of the platform is listed. -/
def State.reset : State where
  flow := { pc := resetAddress, npc := resetAddress + 4, grp := none, bytelit := false }
  os := { cells := [0, 0], ptr := 0, active := false }
  ls := { cells := [], ptr := 0, active := false }
  g := Vector.replicate 16 0
  x := 0
  ct := 0
  mode := 0
  res := { ioin := 0xFF, ioip := 0, ioius := 0, ioout := 0xFF, ioie := 0, mfltaddr := 0, mfltdata := 0,
           mfltLatched := false, mspwe := false }
  ctl := { intBlock := false, ieOld := none, enOld := none, stepPending := false, pending := [] }
  plat := { pins := 0xFF, env := [], bus := [], posted := none, stuck := false }
  mem := []
  free := 0

end Sys2Proof.Machine
end

