-- ==== Sys2Proof/Machine/Flags.lean ====
section
/-! DEFINITION. The fields of `mode` (10_state.md R40) and the computations on them: carry (R41), the GRS extension
(R42), and signalling an exception (60_exceptions.md R451). -/

namespace Sys2Proof.Machine

/-- `f` applied `n` times. -/
def iter {α : Type} (n : Nat) (f : α → α) (a : α) : α :=
  match n with
  | 0 => a
  | k + 1 => iter k f (f a)

/-! The places of the fields of `mode` (10_state.md R40, D3; log 27). -/

abbrev bitMfltWrite : Nat := 31
abbrev bitGuard : Nat := 30
abbrev bitRound : Nat := 29
abbrev bitSticky : Nat := 28
abbrev bitMfltEn : Nat := 27
abbrev bitMfltSig : Nat := 26
abbrev bitLsBoundary : Nat := 25
abbrev bitLsUnfEn : Nat := 24
abbrev bitLsUnfSig : Nat := 23
abbrev bitLsOvfEn : Nat := 22
abbrev bitLsOvfSig : Nat := 21
abbrev bitOsBoundary : Nat := 20
abbrev bitOsUnfEn : Nat := 19
abbrev bitOsUnfSig : Nat := 18
abbrev bitOsOvfEn : Nat := 17
abbrev bitOsOvfSig : Nat := 16
abbrev bitCarry : Nat := 15
abbrev bitPowerFail : Nat := 14
abbrev bitInterruptEn : Nat := 13
abbrev bitRndSig : Nat := 12
abbrev bitRndEn : Nat := 11
abbrev bitNrmSig : Nat := 10
abbrev bitNrmEn : Nat := 9
abbrev bitOvfSig : Nat := 8
abbrev bitOvfEn : Nat := 7
abbrev bitUnfSig : Nat := 6
abbrev bitUnfEn : Nat := 5
abbrev bitExpSig : Nat := 4
abbrev bitExpEn : Nat := 3
abbrev bitPrecision : Nat := 0

/-- `w` with bit `k` set to `b`. -/
def putBit (w : Word) (k : Nat) (b : Bool) : Word :=
  if b then w ||| (1#32 <<< k) else w &&& ~~~(1#32 <<< k)

/-- `carry` (R41). -/
def State.carry (s : State) : Bool := s.mode.getLsbD bitCarry

/-- `fp_precision`: true for double (R45). -/
def State.double (s : State) : Bool := s.mode.getLsbD bitPrecision

/-- `fp_round_mode` (R45). -/
def State.roundMode (s : State) : BitVec 2 := s.mode.extractLsb' 1 2

/-- `interrupt_en` as `mode` holds it (R40). -/
def State.interruptEn (s : State) : Bool := s.mode.getLsbD bitInterruptEn

/-- Write `carry` (R41). -/
def setCarry (c : Bool) (s : State) : State := s.setMode (putBit s.mode bitCarry c)

/-- Carry out of bit 31 of `a + b + c` (40_alu_arith.md R161, R164). -/
def carryOut (a b : Word) (c : Bool) : Bool := decide (2 ^ 32 ≤ a.toNat + b.toNat + c.toNat)

/-- Borrow of `a - b - c`, on unbounded integers (40_alu_arith.md R165, R166). -/
def borrowOut (a b : Word) (c : Bool) : Bool := decide (a.toNat < b.toNat + c.toNat)

/-- Signed comparison (40_alu_arith.md R167). -/
def signedLess (a b : Word) : Bool := decide (a.toInt < b.toInt)

/-- Is any byte of a cell zero (47_byte_word.md R392)? -/
def anyByteZero (v : Word) : Bool :=
  v.extractLsb' 24 8 == 0 || v.extractLsb' 16 8 == 0 || v.extractLsb' 8 8 == 0 || v.extractLsb' 0 8 == 0

/-- What `pop mode` makes of `mode` (10_state.md R46): bits 25 and 20 are kept, bit 14 is cleared, the others are
written. -/
def writtenMode (old n : Word) : Word := (n &&& ~~~0x02104000#32) ||| (old &&& 0x02100000#32)

/-- The GRS extension (R42). -/
structure Grs where
  guard : Bool
  round : Bool
  sticky : Bool
  deriving DecidableEq, Repr

/-- The GRS extension that a `mode` holds. -/
def grsOf (m : Word) : Grs := ⟨m.getLsbD bitGuard, m.getLsbD bitRound, m.getLsbD bitSticky⟩

/-- `m` with the GRS extension `e`. -/
def putGrs (m : Word) (e : Grs) : Word :=
  putBit (putBit (putBit m bitGuard e.guard) bitRound e.round) bitSticky e.sticky

/-- `GRSShiftIn` (R42). -/
def grsShiftIn (b : Bool) (e : Grs) : Grs := ⟨b, e.guard, e.sticky || e.round⟩

/-- `GRSShiftOut` (48_float.md R401): the bit that leaves, and what remains. -/
def grsShiftOut (e : Grs) : Bool × Grs := (e.guard, ⟨e.round, e.sticky, false⟩)

/-- Any bit of the extension set (48_float.md R409). -/
def grsAny (e : Grs) : Bool := e.guard || e.round || e.sticky

/-- One step of a right shift: `fillBit` enters at the top, and the bit that leaves enters the GRS extension (R42,
41_alu_shift_muldiv.md R200). -/
def shiftRightStep {w : Nat} (fillBit : Bool) (p : BitVec w × Grs) : BitVec w × Grs :=
  ((if fillBit then BitVec.twoPow w (w - 1) else 0) ||| (p.1 >>> 1), grsShiftIn (p.1.getLsbD 0) p.2)

/-- One step of a left shift through carry: zero enters at bit 0 (41_alu_shift_muldiv.md R200). -/
def shiftLeftStep {w : Nat} (p : BitVec w × Bool) : BitVec w × Bool := (p.1 <<< 1, p.1.msb)

/-- One step of a left shift whose bit 0 comes out of the GRS extension (48_float.md R401, R412). -/
def shiftLeftGrsStep {w : Nat} (p : BitVec w × Grs) : BitVec w × Grs :=
  let r := grsShiftOut p.2
  ((p.1 <<< 1) ||| (if r.1 then 1#w else 0), r.2)

/-- What `rnd` does to `s0` (48_float.md R413). -/
inductive RoundAction where
  | nothing
  | increment
  | incrementClearBit0
  deriving DecidableEq, Repr

/-- Table 31 (48_float.md R414): by rounding mode, sign of `ct`, and the GRS extension. -/
def roundAction (rmode : BitVec 2) (negative : Bool) (e : Grs) : RoundAction :=
  if rmode = 0 then
    if !e.guard then .nothing
    else if e.round || e.sticky then .increment
    else .incrementClearBit0
  else if rmode = 1 then
    if negative && grsAny e then .increment else .nothing
  else if rmode = 2 then
    if !negative && grsAny e then .increment else .nothing
  else .nothing

/-- Write the GRS extension. -/
def setGrs (e : Grs) (s : State) : State := s.setMode (putGrs s.mode e)

/-- The signal bit and the enable bit of an exception (60_exceptions.md R450); the single-step trap has neither. -/
def trapBits : Trap → Option (Nat × Nat)
  | .osOvf => some (bitOsOvfSig, bitOsOvfEn)
  | .osUnf => some (bitOsUnfSig, bitOsUnfEn)
  | .lsOvf => some (bitLsOvfSig, bitLsOvfEn)
  | .lsUnf => some (bitLsUnfSig, bitLsUnfEn)
  | .memFault => some (bitMfltSig, bitMfltEn)
  | .fpExp => some (bitExpSig, bitExpEn)
  | .fpUnf => some (bitUnfSig, bitUnfEn)
  | .fpOvf => some (bitOvfSig, bitOvfEn)
  | .fpNrm => some (bitNrmSig, bitNrmEn)
  | .fpRnd => some (bitRndSig, bitRndEn)
  | .step => none

/-- Add a trap to the set pending for the instruction in progress. -/
def addPending (t : Trap) (s : State) : State :=
  if t ∈ s.ctl.pending then s else s.setCtl { s.ctl with pending := s.ctl.pending ++ [t] }

/-- Remove a trap from the pending set. -/
def removePending (t : Trap) (s : State) : State :=
  s.setCtl { s.ctl with pending := s.ctl.pending.filter (· != t) }

/-- The `mode` whose trap enables apply: while a `pop mode` completes, the one it replaced (44_data_movement.md R300). -/
def trapEnables (s : State) : Word := s.ctl.enOld.getD s.mode

/-- `signal` (60_exceptions.md R451): set the signal bit always; if the enable bit is set, the trap is pending. -/
def signal (t : Trap) (s : State) : State :=
  match trapBits t with
  | none => addPending t s
  | some (sig, en) =>
    let s1 := s.setMode (putBit s.mode sig true)
    if (trapEnables s).getLsbD en then addPending t s1 else s1

/-- `signal` when a condition holds. -/
def signalWhen (c : Bool) (t : Trap) (s : State) : State := if c then signal t s else s

end Sys2Proof.Machine
end

