-- ==== Sys2Proof/Machine/Memory.lean ====
section
/-! DEFINITION. Memory as a list of bytes in one canonical form, and the cell accesses built from it (20_memory.md R80
to R87). -/

namespace Sys2Proof.Machine.Memory

/-- What a byte that nothing has written reads as (log 1). -/
def unwritten : Byte := 0

/-- The byte at an address. -/
def readByte (m : List Host.Cell) (a : Nat) : Byte :=
  match m with
  | [] => unwritten
  | c :: rest => if c.1 = a then c.2 else readByte rest a

/-- `m` with the byte `v` at an address; the canonical form is kept. -/
def writeByte (m : List Host.Cell) (a : Nat) (v : Byte) : List Host.Cell :=
  match m with
  | [] => if v = unwritten then [] else [(a, v)]
  | c :: rest =>
    if a < c.1 then (if v = unwritten then c :: rest else (a, v) :: c :: rest)
    else if a = c.1 then (if v = unwritten then rest else (a, v) :: rest)
    else c :: writeByte rest a v

/-- The canonical form: addresses strictly rising and inside the 4 GB space, no entry an unwritten byte's value. -/
def wf : List Host.Cell → Bool
  | [] => true
  | c :: rest =>
    decide (c.1 < 2 ^ 32) && c.2 != unwritten && rest.all (fun d => decide (c.1 < d.1)) && wf rest

/-- The address of the cell that holds an address: the two low bits are ignored (R82). -/
def cellAddress (a : Word) : Word := a &&& 0xFFFFFFFC

/-- Byte `k` of a cell, byte 0 the most significant (R81). -/
def byteOfCell (v : Word) (k : Nat) : Byte := v.extractLsb' (24 - 8 * k) 8

/-- `MemReadCell` without its bus transfer (R84). -/
def readCell (m : List Host.Cell) (a : Word) : Word :=
  let n := (cellAddress a).toNat
  readByte m n ++ readByte m (n + 1) ++ readByte m (n + 2) ++ readByte m (n + 3)

/-- `MemWrite` without its bus transfer (R87). -/
def writeCell (m : List Host.Cell) (a : Word) (v : Word) : List Host.Cell :=
  let n := (cellAddress a).toNat
  let m0 := writeByte m n (byteOfCell v 0)
  let m1 := writeByte m0 (n + 1) (byteOfCell v 1)
  let m2 := writeByte m1 (n + 2) (byteOfCell v 2)
  writeByte m2 (n + 3) (byteOfCell v 3)

/-- The byte of a cell that an address selects (R85). -/
def byteAt (c : Word) (a : Word) : Byte := byteOfCell c (a.extractLsb' 0 2).toNat

/-- The 16-bit word of a cell that an address selects (R86). -/
def wordAt (c : Word) (a : Word) : BitVec 16 :=
  if a.getLsbD 1 then c.extractLsb' 0 16 else c.extractLsb' 16 16

end Sys2Proof.Machine.Memory
end

