-- ==== Sys2Proof/Machine/Ops.lean ====
section
/-! DEFINITION. The shared operations: free values, bus transfers and memory faults, the two stacks, entering a group,
taking traps and interrupts. -/

namespace Sys2Proof.Machine

/-! Free values (93_implementation_defined.md, treatment "any value"; log 30). -/

/-- The `k`-th free value after those already used. -/
def freeVal (k : Nat) (s : State) : Word := Config.freeWord (s.free + k)

/-- Mark `k` free values as used. -/
def useFree (k : Nat) (s : State) : State := s.setFree (s.free + k)

/-! Iteration. -/

/-- `f` applied `n` times, until a fault or a refusal. -/
def iterO (n : Nat) (f : State → Result) (s : State) : Result :=
  match n with
  | 0 => .next s
  | k + 1 => andThen (f s) (iterO k f)

/-! The bus and the memory fault (20_memory.md R92 to R99, 60_exceptions.md R460). -/

/-- `MemFault` (R460): the registers take the address as it appeared on the bus (log 31) and the data; a second fault
overwrites the first (U5, log 39). -/
def memFault (write : Bool) (a data : Word) (s : State) : State :=
  let s1 := s.setRes { s.res with mfltaddr := a, mfltdata := data, mfltLatched := true }
  signal .memFault (s1.setMode (putBit s1.mode bitMfltWrite write))

/-- The CPU waits in a transfer that never completes (R97, U18). -/
def hang (s : State) : State := s.setPlat { s.plat with stuck := true }

/-- The posted write ends (R95), and the fault the platform gives it is reported (R461 b). One that never ends holds up
the transfer that waits for it (R97; log 8). -/
def finishPosted (s : State) : State :=
  match s.plat.posted with
  | none => s
  | some p =>
    if p.dval then
      let s1 := s.setPlat { s.plat with posted := none }
      if p.faultb then memFault true p.addr p.data s1 else s1
    else hang s

/-- The answer of a transfer the platform says nothing about: it completes, without a fault (log 5). -/
def plainAnswer : BusAnswer := { dval := true, faultb := false, lands := true, late := 0 }

/-- The platform's answer to the next transfer. -/
def busAnswer (s : State) : BusAnswer := s.plat.bus.headD plainAnswer

/-- The state once the bus is free for the next transfer: the posted write has ended (R95) and the answer is taken. -/
def busReady (s : State) : State :=
  let s1 := finishPosted s
  s1.setPlat { s1.plat with bus := s1.plat.bus.tail }

/-- `MemReadCell`: one bus read of the cell that holds `a` (R84). A faulted read delivers a free value (U8, log 7), and
what it leaves in `mfltdata` is a free value (U7). A CPU that waits in a transfer makes no other (log 8). -/
def busRead (a : Word) (s : State) : Word × State :=
  let ans := busAnswer (finishPosted s)
  let s1 := busReady s
  if (finishPosted s).plat.stuck then (freeVal 0 s, finishPosted s)
  else if !ans.dval then (freeVal 0 s1, hang (useFree 1 s1))
  else if ans.faultb then (freeVal 0 s1, memFault false a (freeVal 1 s1) (useFree 2 s1))
  else (Memory.readCell s1.mem a, s1)

/-- `MemWrite`: one bus write of a cell (R87), posted when `mspwe` is set (R60, R95; log 9, log 38). A write that faults
or never ends reaches memory as the platform decides (R460). -/
def busWrite (a v : Word) (s : State) : State :=
  let ans := busAnswer (finishPosted s)
  let s1 := busReady s
  if (finishPosted s).plat.stuck then finishPosted s
  else
    let s2 := if ans.dval && !ans.faultb || ans.lands then s1.setMem (Memory.writeCell s1.mem a v) else s1
    if s2.res.mspwe then
      s2.setPlat { s2.plat with
        posted := some { addr := a, data := v, dval := ans.dval, faultb := ans.faultb, late := ans.late } }
    else if !ans.dval then hang s2
    else if ans.faultb then memFault true a v s2
    else s2

/-- Does *FAULTB end the next transfer (R99)? -/
def readFaults (s : State) : Bool := (busAnswer (finishPosted s)).faultb

/-- Did the write to `a` that left the state `s` hit the cell at `npc` of the group that stores, which may already be
pre-fetched (R93.2, D26, U10)? Where the CPU waits in that write, or before it in an earlier one, it never uses the cell
(R97; log 8). -/
def hitsPrefetch (npc a : Word) (s : State) : Bool :=
  Memory.cellAddress a == Memory.cellAddress npc && !s.plat.stuck

/-- A store made by the running program (R93; log 17). -/
def memStore (a v : Word) (s : State) : Result :=
  let s1 := busWrite a v s
  if hitsPrefetch s.flow.npc a s1 then .refused .storeToPrefetchedCell else .next s1

/-! The stacks (10_state.md R26 to R35). -/

/-- One of the two stacks. -/
def stackOf (k : Stk) (s : State) : Stack :=
  match k with
  | .os => s.os
  | .ls => s.ls

/-- Replace one of the two stacks. -/
def setStack (k : Stk) (v : Stack) (s : State) : State :=
  match k with
  | .os => s.setOs v
  | .ls => s.setLs v

/-- The most cells a stack has on chip between instructions: 2 + 15 and 15 (R35). -/
def mostCells : Stk → Nat
  | .os => 17
  | .ls => 15

/-- The fewest cells an allocated stack has on chip between instructions: 2 + 1 and 1 (R35). -/
def leastCells : Stk → Nat
  | .os => 3
  | .ls => 1

/-- The `_boundary` bit of a stack (R44). -/
def boundaryBit : Stk → Nat
  | .os => bitOsBoundary
  | .ls => bitLsBoundary

/-- The overflow trap of a stack (60_exceptions.md R450). -/
def overflowTrap : Stk → Trap
  | .os => .osOvf
  | .ls => .lsOvf

/-- The underflow trap of a stack (60_exceptions.md R450). -/
def underflowTrap : Stk → Trap
  | .os => .osUnf
  | .ls => .lsUnf

/-- Write the `_boundary` bit of a stack. -/
def setBoundary (k : Stk) (b : Bool) (s : State) : State := s.setMode (putBit s.mode (boundaryBit k) b)

/-- `CheckPage` (60_exceptions.md R455) after a spill (`spilled`) or a refill at address `a`. -/
def checkPage (k : Stk) (spilled : Bool) (a : Word) (s : State) : State :=
  let edge : Word := if spilled then 0 else 0x380
  let crossed := !s.mode.getLsbD (boundaryBit k) && (a &&& 0x380) == edge
  let s1 :=
    if crossed then
      signal (if spilled then overflowTrap k else underflowTrap k) (setBoundary k true s)
    else s
  let p := if spilled then a - 4 else a
  if (p &&& 0x380) = 0x200 then setBoundary k false s1 else s1

/-- `SpillS`, `SpillL` (R28, R32): the deepest cell goes to memory at the pointer, which then goes down by 4. -/
def spillRaw (k : Stk) (s : State) : State :=
  let st := stackOf k s
  let s1 := checkPage k true st.ptr (busWrite st.ptr (st.cells.getLastD 0) s)
  setStack k { st with cells := st.cells.dropLast, ptr := st.ptr - 4 } s1

/-- A spill for an instruction of the group whose `npc` is given, refused where it would write that cell (U10,
log 17). -/
def spill (npc : Word) (k : Stk) (s : State) : Result :=
  let s1 := spillRaw k s
  if hitsPrefetch npc (stackOf k s).ptr s1 then .refused .storeToPrefetchedCell else .next s1

/-- `RefillS`, `RefillL` (R28, R32): the pointer goes up by 4 and the cell there becomes the deepest one. -/
def refill (k : Stk) (s : State) : State :=
  let st := stackOf k s
  let a := st.ptr + 4
  let r := busRead a s
  setStack k { st with cells := st.cells ++ [r.1], ptr := a } (checkPage k false a r.2)

/-- Spill while a stack has more than `limit` cells on chip. -/
def trim (npc : Word) (k : Stk) (limit : Nat) (s : State) : Result :=
  iterO ((stackOf k s).cells.length - limit) (spill npc k) s

/-- Refill while a stack has fewer than `least` cells on chip. -/
def fill (k : Stk) (least : Nat) (s : State) : State :=
  iter (least - (stackOf k s).cells.length) (refill k) s

/-- Refill an allocated stack to its least depth (R29, R35). -/
def fillActive (k : Stk) (s : State) : State :=
  if (stackOf k s).active then fill k (leastCells k) s else s

/-- The part of `Normalize` about one stack. -/
def settle (npc : Word) (k : Stk) (s : State) : Result :=
  andThen (trim npc k (mostCells k) s) fun s1 => .next (fillActive k s1)

/-- `Normalize` (R35) after an instruction of the group whose `npc` is given: the operand stack first, then the
local-register stack (D6). -/
def normalize (npc : Word) (s : State) : Result := andThen (settle npc .os s) (settle npc .ls)

/-- `Normalize` during the entry of a trap or an interrupt, whose spills no instruction makes: every group is fetched
again after the transfer, so U10 does not arise (R93.3; log 17). -/
def normalizeRaw (s : State) : State :=
  let s1 := fillActive .os (iter ((stackOf .os s).cells.length - mostCells .os) (spillRaw .os) s)
  fillActive .ls (iter ((stackOf .ls s1).cells.length - mostCells .ls) (spillRaw .ls) s1)

/-- Cell `s<i>` of the operand stack. The cell `s2` that is not allocated yet reads as a free value (U2, log 15). -/
def cell (i : Nat) (s : State) : Word := s.os.cells.getD i (freeVal 0 s)

/-- Pop `k` cells off the operand stack and push `vs`, whose head becomes `s0` (00_scope.md R7). A stack that is not
allocated yet may not shrink (R29, U3); the first instruction that grows it allocates it. -/
def replaceS (k : Nat) (vs : List Word) (s : State) : Result :=
  if decide (vs.length < k) && !s.os.active then .refused .unallocatedStack
  else .next (s.setOs { s.os with
    cells := vs ++ s.os.cells.drop k, active := s.os.active || decide (k < vs.length) })

/-- `PushS` (00_scope.md R8). -/
def pushS (v : Word) (s : State) : State := s.setOs { s.os with cells := v :: s.os.cells, active := true }

/-- `PushL` (00_scope.md R8, R29). -/
def pushL (v : Word) (s : State) : State := s.setLs { s.ls with cells := v :: s.ls.cells, active := true }

/-- The top of the local-register stack, `r0`. -/
def topL (s : State) : Word := s.ls.cells.headD 0

/-- `PopL`, with the popped cell given to `f`. A stack not allocated yet may not shrink (R29, U3). -/
def popL (s : State) (f : Word → State → Result) : Result :=
  if !s.ls.active then .refused .unallocatedStack
  else f (topL s) (s.setLs { s.ls with cells := s.ls.cells.tail })

/-- Refill until `r<i>` is in the cache (R33). -/
def reach (i : Nat) (s : State) : State := fill .ls (i + 1) s

/-- `r<i>`, once it is in the cache. -/
def localReg (i : Nat) (s : State) : Word := s.ls.cells.getD i 0

/-- Write `r<i>`, once it is in the cache. -/
def setLocalReg (i : Nat) (v : Word) (s : State) : State := s.setLs { s.ls with cells := s.ls.cells.set i v }

/-! Instruction sequencing (10_state.md R21 to R25). -/

/-- The byte of the group at which `pc` stands (R21). -/
def byteIndex (a : Word) : BitVec 2 := a.extractLsb' 0 2

/-- The group in the latch (R25); 0 where none is latched, which no step executes from (log 37). -/
def group (s : State) : Word := s.flow.grp.getD 0

/-- `EnterGroup` (R23). -/
def enterGroup (a : Word) (s : State) : State :=
  let r := busRead a s
  r.2.setFlow { pc := a, npc := Memory.cellAddress a + 4, grp := some r.1, bytelit := false }

/-- Is an earlier byte of the group `w` than the one `a` selects a `push.l` (42_control.md R256)? -/
def hidesLiteral (w a : Word) : Bool :=
  let p := (byteIndex a).toNat
  (decide (0 < p) && groupByte w 0 == 0x4F) || (decide (1 < p) && groupByte w 1 == 0x4F) ||
    (decide (2 < p) && groupByte w 2 == 0x4F)

/-- Does the next transfer end in a fault that traps? -/
def fetchTraps (s : State) : Bool := readFaults s && (trapEnables s).getLsbD bitMfltEn

/-- A control transfer to a byte address (R23), refused after a `push.l` of its group (R256, U9). A fetch whose own fault
traps is not refused, since the group is fetched again before it executes (log 16), nor one that never ends. -/
def transferTo (a : Word) (s : State) : Result :=
  let s1 := enterGroup a s
  if !s1.plat.stuck && !fetchTraps s && hidesLiteral (group s1) a then .refused .midGroupAfterLiteral
  else .next s1

/-- Is the current opcode the last of its group: at byte 3, or at byte 2 after a `push.b` (R24, D5)? -/
def lastOfGroup (s : State) : Bool :=
  byteIndex s.flow.pc == 3 || (byteIndex s.flow.pc == 2 && s.flow.bytelit)

/-- `NextInstr` (42_control.md R230): where the sequential advance goes. -/
def nextInstr (s : State) : Word := if lastOfGroup s then s.flow.npc else s.flow.pc + 1

/-- `NextGroup` (42_control.md R230). -/
def nextGroup (s : State) : State := enterGroup s.flow.npc s

/-- The sequential advance (R24, step 4). -/
def advance (s : State) : State :=
  if lastOfGroup s then nextGroup s else s.setFlow { s.flow with pc := s.flow.pc + 1 }

/-- Pop `k`, push `vs`, and advance: the whole of a plain stack instruction. -/
def stackResult (k : Nat) (vs : List Word) (s : State) : Result :=
  andThen (replaceS k vs s) fun s1 => .next (advance s1)

/-! Taking a trap and returning from one (60_exceptions.md R470 to R473). -/

/-- The executable-code vector of a trap (R450). -/
def vectorOf (t : Trap) : Word :=
  match t with
  | .step => 0x138
  | t => Config.trapVectorCell t ++ 0#2

/-- The breakpoint vector (R450). -/
def breakpointVector : Word := 0x134

/-- The vector of interrupt `i` (R450). -/
def interruptVector (i : Fin 8) : Word := Config.interruptVectorCell i ++ 0#2

/-- The stack-page traps are above all others and the single-step trap below all (R470). -/
def trapClass : Trap → Nat
  | .step => 0
  | .osOvf | .osUnf | .lsOvf | .lsUnf => 2
  | _ => 1

/-- The open part of the priority; the normalize trap is never above underflow or overflow (R470.2; log 12). -/
def trapRank (t : Trap) : Nat :=
  match t with
  | .fpNrm =>
    min (Config.trapKey .fpNrm).val (min (Config.trapKey .fpUnf).val (Config.trapKey .fpOvf).val)
  | t => (Config.trapKey t).val

/-- `TRAP_PRIORITY` (R470, D2): is `t` of lower priority than `u`? -/
def trapBelow (t u : Trap) : Bool :=
  decide (trapClass t < trapClass u) ||
    (decide (trapClass t = trapClass u) &&
      (decide (trapRank t < trapRank u) || (decide (trapRank t = trapRank u) && decide (t.index < u.index))))

/-- The lowest-priority member of `t :: ts`. -/
def lowestTrap (t : Trap) (ts : List Trap) : Trap :=
  match ts with
  | [] => t
  | u :: us => lowestTrap (if trapBelow u t then u else t) us

/-- Write `int_block` (10_state.md R65). -/
def setIntBlock (b : Bool) (s : State) : State := s.setCtl { s.ctl with intBlock := b }

/-- The loop of `TakePending` (R472): one return address pushed for each pending trap, lowest priority first. The
answer is the vector of the last one and the state after the pushes. `fuel` is never used up (log 34). -/
def nestTraps (fuel : Nat) (ra : Word) (s : State) : Word × State :=
  match fuel with
  | 0 => (ra, s)
  | n + 1 =>
    match s.ctl.pending with
    | [] => (ra, s)
    | t :: ts =>
      let u := lowestTrap t ts
      nestTraps n (vectorOf u) (normalizeRaw (pushL ra (removePending u s)))

/-- `TakePending` (R472) for a pending set that is not empty: nest the traps, block interrupts, and enter the vector of
the highest-priority one. -/
def enterTraps (s : State) : State :=
  let r := nestTraps (64 + 2 * s.plat.bus.length) s.flow.pc s
  enterGroup r.1 (setIntBlock true r.2)

/-- Take the pending traps, and again those that the fetch of a vector makes pending (R461 a). -/
def takeTraps (fuel : Nat) (s : State) : State :=
  match fuel with
  | 0 => s
  | n + 1 => if s.ctl.pending = [] then s else takeTraps n (enterTraps s)

/-- Step 7 of R24. -/
def takePending (s : State) : State := takeTraps (s.plat.bus.length + 3) s

/-- `raise Trap` as the action of an instruction (R471): push the return address, block interrupts, enter the vector.
`Normalize` is step 5 of R24. -/
def raiseTrap (vector ra : Word) (s : State) : State := enterGroup vector (setIntBlock true (pushL ra s))

/-- Return from a trap or a subroutine (R473, 42_control.md R237): pop the return address and transfer. -/
def returnFrom (s : State) : Result := popL s transferTo

/-- The lowest-numbered set bit of a byte, or 8: the highest-priority interrupt (R480). -/
def lowestBit (b : Byte) : Nat := ((List.range 8).find? fun i => b.getLsbD i).getD 8

/-- A byte with bit `k` set to `v`. -/
def putByteBit (b : Byte) (k : Nat) (v : Bool) : Byte :=
  if v then b ||| (1#8 <<< k) else b &&& ~~~(1#8 <<< k)

/-- `TakeInterrupt` (R481), without its `Normalize`. -/
def enterInterrupt (i : Fin 8) (s : State) : State :=
  let s1 := s.setRes { s.res with
    ioip := putByteBit s.res.ioip i.val false, ioius := putByteBit s.res.ioius i.val true }
  raiseTrap (interruptVector i) s1.flow.pc s1

/-- The bit that `reti` clears: the highest-priority interrupt under service (42_control.md R238). -/
def endService (s : State) : State :=
  s.setRes { s.res with ioius := putByteBit s.res.ioius (lowestBit s.res.ioius) false }

end Sys2Proof.Machine
end

