-- ==== Sys2Proof/Machine/Operands.lean ====
section
/-! DEFINITION. The operand forms: literals and branch offsets of the instruction group, the on-chip resource space, and
the floating-point fields. -/

namespace Sys2Proof.Machine

/-! Literals and offsets (30_encoding.md R122 to R127). -/

/-- The value of a nibble literal: -7 to 8 (43_literals.md R280). -/
def nibbleValue (n : BitVec 4) : Word := if n = 8 then 8 else n.signExtend 32

/-- An offset in cells, sign-extended (30_encoding.md R122). -/
def offsetCells : Offset → Word
  | .w27 d => d.signExtend 32
  | .w19 d => d.signExtend 32
  | .w11 d => d.signExtend 32
  | .w3 d => d.signExtend 32

/-- `G`, the address of the current group (42_control.md R230). -/
def groupAddress (s : State) : Word := Memory.cellAddress s.flow.pc

/-- `target = G + 4 * offset` (42_control.md R230). -/
def branchTarget (o : Offset) (s : State) : Word := groupAddress s + (offsetCells o <<< 2)

/-- How many bytes of the group before the current one are `push.l`. -/
def literalsBefore (s : State) : Nat :=
  ((List.range (byteIndex s.flow.pc).toNat).filter fun p => groupByte (group s) (BitVec.ofNat 2 p) == 0x4F).length

/-- Has this `push.l` already taken its literal cell, in an earlier pass of a micro-loop (42_control.md R247, D24)? The
k-th `push.l` of a group takes the cell at `G + 4 k` (43_literals.md R282).
DESIGN CHOICE (log 26): where an interrupt or a trap came between the passes, the return enters the group anew with
`npc = G + 4` (10_state.md R23), and a `push.l` that an earlier pass executed runs again, and is not refused. -/
def literalTaken (s : State) : Bool :=
  s.flow.npc != groupAddress s + 4 + BitVec.ofNat 32 (4 * literalsBefore s)

/-! The on-chip resource space (10_state.md R50 to R60). -/

/-- The five bit-addressable registers. -/
inductive ByteReg where
  | ioin | ioip | ioius | ioout | ioie
  deriving DecidableEq, Repr

/-- The bit-addressable register at a register address (R50). -/
def byteRegAt (a : Word) : Option ByteReg :=
  if a = 0x000 then some .ioin
  else if a = 0x020 then some .ioip
  else if a = 0x040 then some .ioius
  else if a = 0x060 then some .ioout
  else if a = 0x080 then some .ioie
  else none

/-- The value of a bit-addressable register. -/
def readByteReg (r : ByteReg) (s : State) : Byte :=
  match r with
  | .ioin => s.res.ioin
  | .ioip => s.res.ioip
  | .ioius => s.res.ioius
  | .ioout => s.res.ioout
  | .ioie => s.res.ioie

/-- Write all eight bits of a bit-addressable register. A one written to `ioin` takes the most recent pin sample
(R53, 60_exceptions.md R486). -/
def writeByteReg (r : ByteReg) (v : Byte) (s : State) : State :=
  match r with
  | .ioin => s.setRes { s.res with ioin := v &&& s.plat.pins }
  | .ioip => s.setRes { s.res with ioip := v }
  | .ioius => s.setRes { s.res with ioius := v }
  | .ioout => s.setRes { s.res with ioout := v }
  | .ioie => s.setRes { s.res with ioie := v }

/-- Write one bit of a bit-addressable register and no other (R52); a one written to `ioin` takes the pin sample. -/
def writeByteRegBit (r : ByteReg) (k : Nat) (b : Bool) (s : State) : State :=
  match r with
  | .ioin => s.setRes { s.res with ioin := putByteBit s.res.ioin k (b && s.plat.pins.getLsbD k) }
  | .ioip => s.setRes { s.res with ioip := putByteBit s.res.ioip k b }
  | .ioius => s.setRes { s.res with ioius := putByteBit s.res.ioius k b }
  | .ioout => s.setRes { s.res with ioout := putByteBit s.res.ioout k b }
  | .ioie => s.setRes { s.res with ioie := putByteBit s.res.ioie k b }

/-- `miscc`: `mspwe` at its open place, zeros elsewhere (R60, D9). -/
def miscc (s : State) : Word := putBit 0 Config.mspweBit.val s.res.mspwe

/-- `ResRead` (R51), none where the address is no register (U6). A read of `mfltaddr` ends the latch (R58); what is not
latched reads as a free value (U4, log 10). -/
def resRead (a : Word) (s : State) : Option (Word × State) :=
  match byteRegAt a with
  | some r => some ((readByteReg r s).setWidth 32, s)
  | none =>
    if a = 0x120 then
      if s.res.mfltLatched then some (s.res.mfltaddr, s.setRes { s.res with mfltLatched := false })
      else some (freeVal 0 s, useFree 1 s)
    else if a = 0x140 then
      if s.res.mfltLatched then some (s.res.mfltdata, s) else some (freeVal 0 s, useFree 1 s)
    else if a = 0x1A0 then some (miscc s, s)
    else none

/-- `ResWrite` (R51), none where the address is no register (U6). Writes to the two fault registers are ignored (D8).
DESIGN CHOICE (log 9): a write that is still posted when `mspwe` is cleared stays in progress, and its fault may be
reported later; R60 and R68 do not say whether the CPU waits for it there. -/
def resWrite (a v : Word) (s : State) : Option State :=
  match byteRegAt a with
  | some r => some (writeByteReg r (v.setWidth 8) s)
  | none =>
    if a = 0x120 ∨ a = 0x140 then some s
    else if a = 0x1A0 then some (s.setRes { s.res with mspwe := v.getLsbD Config.mspweBit.val })
    else none

/-- The register a bit address belongs to (R50, R52). -/
def bitRegAt (b : Word) : Option ByteReg := byteRegAt (b &&& 0xFFFFFFF8)

/-- The bit of that register. -/
def bitIndex (b : Word) : Nat := (b.extractLsb' 0 3).toNat

/-! The floating-point fields (48_float.md R400); `d` is `fp_precision`, true for double. -/

/-- W: the width of the exponent field. -/
def expWidth (d : Bool) : Nat := if d then 11 else 8

/-- LO: the place of the hidden bit. -/
def hiddenPos (d : Bool) : Nat := if d then 20 else 23

/-- EMASK. -/
def expMask (d : Bool) : Word := if d then 0x7FF00000 else 0x7F800000

/-- FMASK. -/
def sigMask (d : Bool) : Word := if d then 0x000FFFFF else 0x007FFFFF

/-- HID. -/
def hiddenBit (d : Bool) : Word := if d then 0x00100000 else 0x00800000

/-- SMASK. -/
def signMask : Word := 0x80000000

/-- The hidden bit and the seven bits to its right (R412). -/
def byteMask (d : Bool) : Word := if d then 0x001FE000 else 0x00FF0000

/-- BIAS. -/
def bias (d : Bool) : Int := if d then 1023 else 127

/-- The exponent-field maximum. -/
def expMax (d : Bool) : Int := if d then 2047 else 255

/-- Exp(v). -/
def expOf (d : Bool) (v : Word) : Nat := ((v &&& expMask d) >>> hiddenPos d).toNat

/-- Sig(v). -/
def sigOf (d : Bool) (v : Word) : Word := (v &&& sigMask d) ||| hiddenBit d

/-- As many low-order bits of an exponent as its field holds, in the field's place. -/
def expField (d : Bool) (e : Int) : Word := (BitVec.ofInt 32 e <<< hiddenPos d) &&& expMask d

/-- `c` with its exponent field replaced by `e` modulo its width. -/
def withExp (d : Bool) (c : Word) (e : Int) : Word := (c &&& ~~~expMask d) ||| expField d e

/-- The special exponents: all zeros or all ones (R408). -/
def specialExp (d : Bool) (v : Word) : Bool := decide (expOf d v = 0) || decide ((expOf d v : Int) = expMax d)

/-- The significand operand of `denorm`, `normr`, `norml` as 64 bits: s0 alone, or s0 and s1. -/
def sigOperand (s : State) : BitVec 64 :=
  if s.double then cell 0 s ++ cell 1 s else (cell 0 s).setWidth 64

/-- The cell that holds the hidden bit of such an operand. -/
def sigTop (d : Bool) (v : BitVec 64) : Word := if d then v.extractLsb' 32 32 else v.extractLsb' 0 32

/-- Write such an operand back, and advance. -/
def sigResult (v : BitVec 64) (s : State) : Result :=
  if s.double then stackResult 2 [v.extractLsb' 32 32, v.extractLsb' 0 32] s
  else stackResult 1 [v.extractLsb' 0 32] s

end Sys2Proof.Machine
end

