-- ==== Sys2Proof/Machine/Alu.lean ====
section
/-! DEFINITION. Arithmetic, compare and logical instructions (spec/40_alu_arith.md). In each, `cell 0` is s0 and `cell 1`
is s1; in a diagram `( n1 n2 -- n3 )` n2 is s0 and n1 is s1. -/

namespace Sys2Proof.Machine

/-- `add` (R161). -/
def execAdd (s : State) : Result :=
  stackResult 2 [cell 1 s + cell 0 s] (setCarry (carryOut (cell 1 s) (cell 0 s) false) s)

/-- `add pc` (R162): `pc` is the address of this opcode. -/
def execAddPc (s : State) : Result :=
  stackResult 1 [cell 0 s + s.flow.pc] (setCarry (carryOut (cell 0 s) s.flow.pc false) s)

/-- `adda` (R163). -/
def execAdda (s : State) : Result := stackResult 2 [cell 1 s + cell 0 s] s

/-- `addc` (R164). -/
def execAddc (s : State) : Result :=
  stackResult 2 [cell 1 s + cell 0 s + (if s.carry then 1 else 0)]
    (setCarry (carryOut (cell 1 s) (cell 0 s) s.carry) s)

/-- `sub` (R165). -/
def execSub (s : State) : Result :=
  stackResult 2 [cell 1 s - cell 0 s] (setCarry (borrowOut (cell 1 s) (cell 0 s) false) s)

/-- `subb` (R166). -/
def execSubb (s : State) : Result :=
  stackResult 2 [cell 1 s - cell 0 s - (if s.carry then 1 else 0)]
    (setCarry (borrowOut (cell 1 s) (cell 0 s) s.carry) s)

/-- `cmp` (R167). -/
def execCmp (s : State) : Result := .next (advance (setCarry (signedLess (cell 1 s) (cell 0 s)) s))

/-- `mxm` (R168). -/
def execMxm (s : State) : Result :=
  if signedLess (cell 1 s) (cell 0 s) then .next (advance (setCarry true s))
  else stackResult 2 [cell 1 s, cell 0 s] (setCarry false s)

/-- `neg` (R169). -/
def execNeg (s : State) : Result := stackResult 1 [0 - cell 0 s] s

/-- `inc #1` (R170). -/
def execInc1 (s : State) : Result := stackResult 1 [cell 0 s + 1] s

/-- `inc #4` (R171). -/
def execInc4 (s : State) : Result := stackResult 1 [cell 0 s + 4] s

/-- `dec #1` (R172). -/
def execDec1 (s : State) : Result := stackResult 1 [cell 0 s - 1] s

/-- `dec #4` (R173). -/
def execDec4 (s : State) : Result := stackResult 1 [cell 0 s - 4] s

/-- `dec ct,#1` (R174). -/
def execDecCt (s : State) : Result := .next (advance (s.setCt (s.ct - 1)))

/-- `eqz` (R175). -/
def execEqz (s : State) : Result := stackResult 1 [if cell 0 s = 0 then Word.allOnes else 0] s

/-- `and` (R176). -/
def execAnd (s : State) : Result := stackResult 2 [cell 1 s &&& cell 0 s] (setCarry false s)

/-- `or` (R177). -/
def execOr (s : State) : Result := stackResult 2 [cell 1 s ||| cell 0 s] (setCarry false s)

/-- `xor` (R178). -/
def execXor (s : State) : Result := stackResult 2 [cell 1 s ^^^ cell 0 s] (setCarry false s)

/-- `iand` (R179): the inverted operand is s0. -/
def execIand (s : State) : Result := stackResult 2 [cell 1 s &&& ~~~cell 0 s] (setCarry false s)

/-- `notc` (R180). -/
def execNotc (s : State) : Result := .next (advance (setCarry (!s.carry) s))

/-- `nop` (R181). -/
def execNop (s : State) : Result := .next (advance s)

end Sys2Proof.Machine
end

