-- ==== Sys2Proof/Machine/ByteWord.lean ====
section
/-! DEFINITION. Byte and word operations (spec/47_byte_word.md). -/

namespace Sys2Proof.Machine

/-- `copyb` (R391). -/
def execCopyb (s : State) : Result :=
  let b : Byte := (cell 0 s).extractLsb' 0 8
  stackResult 1 [b ++ b ++ b ++ b] s

/-- `testb` (R392). -/
def execTestb (s : State) : Result := .next (advance (setCarry (anyByteZero (cell 0 s)) s))

/-- `n2` with its byte `k` replaced, byte 0 the most significant (R393). -/
def replaceByte (k : Nat) (b : Byte) (n2 : Word) : Word :=
  let sh := 24 - 8 * k
  (n2 &&& ~~~(0xFF#32 <<< sh)) ||| (b.setWidth 32 <<< sh)

/-- `replb` (R393). -/
def execReplb (s : State) : Result :=
  stackResult 2 [replaceByte (s.x.extractLsb' 0 2).toNat ((cell 1 s).extractLsb' 0 8) (cell 0 s)] s

/-- `replw` (R394). -/
def execReplw (s : State) : Result :=
  let w : BitVec 16 := (cell 1 s).extractLsb' 0 16
  let n3 : Word := if s.x.getLsbD 1 then (cell 0 s).extractLsb' 16 16 ++ w else w ++ (cell 0 s).extractLsb' 0 16
  stackResult 2 [n3] s

/-- `sexb` (R395). -/
def execSexb (s : State) : Result := stackResult 1 [((cell 0 s).extractLsb' 0 8).signExtend 32] s

/-- `sexw` (R396). -/
def execSexw (s : State) : Result := stackResult 1 [((cell 0 s).extractLsb' 0 16).signExtend 32] s

/-- `split` (R397). -/
def execSplit (s : State) : Result :=
  stackResult 1 [((cell 0 s).extractLsb' 16 16).setWidth 32, ((cell 0 s).extractLsb' 0 16).setWidth 32] s

end Sys2Proof.Machine
end

