-- ==== Sys2Proof/Machine/Control.lean ====
section
/-! DEFINITION. Branches, calls, returns, skips and micro-loops (spec/42_control.md). A relative target is cell-aligned,
so the refusal of R256 cannot arise for it; the register-indirect transfers check it. -/

namespace Sys2Proof.Machine

/-- `br offset` (R231). -/
def execBrOffset (o : Offset) (s : State) : Result := .next (enterGroup (branchTarget o s) s)

/-- `bz offset` (R232): the cell is popped in both cases. -/
def execBzOffset (o : Offset) (s : State) : Result :=
  andThen (replaceS 1 [] s) fun s1 =>
    .next (if cell 0 s = 0 then enterGroup (branchTarget o s) s1 else nextGroup s1)

/-- `dbr offset` (R233). -/
def execDbrOffset (o : Offset) (s : State) : Result :=
  let s1 := s.setCt (s.ct - 1)
  .next (if s1.ct = 0 then nextGroup s1 else enterGroup (branchTarget o s) s1)

/-- `call offset` (R234): the return address is `npc`. -/
def execCallOffset (o : Offset) (s : State) : Result :=
  .next (enterGroup (branchTarget o s) (pushL s.flow.npc s))

/-- `br []` (R235). -/
def execBrIndirect (s : State) : Result := andThen (replaceS 1 [] s) (transferTo (cell 0 s))

/-- `call []` (R236): the return address is `NextInstr`. -/
def execCallIndirect (s : State) : Result :=
  andThen (replaceS 1 [] s) fun s1 => transferTo (cell 0 s) (pushL (nextInstr s) s1)

/-- `ret` (R237). -/
def execRet (s : State) : Result := returnFrom s

/-- `reti` (R238). -/
def execReti (s : State) : Result := popL s fun a s1 => transferTo a (endService s1)

/-! Skips (R239). -/

/-- A skip that pops nothing. -/
def skipWhen (c : Bool) (s : State) : Result := .next (if c then nextGroup s else advance s)

/-- A skip that pops the cell it tests, in both cases. -/
def skipPopWhen (c : Bool) (s : State) : Result := andThen (replaceS 1 [] s) (skipWhen c)

/-- `skip` (R240). -/
def execSkip (s : State) : Result := skipWhen true s

/-- `skipc` (R241). -/
def execSkipc (s : State) : Result := skipWhen s.carry s

/-- `skipn` (R242). -/
def execSkipn (s : State) : Result := skipPopWhen (cell 0 s).msb s

/-- `skipnp`, another name of `skipn` (R242). -/
def execSkipnp (s : State) : Result := skipPopWhen (cell 0 s).msb s

/-- `skipz` (R243). -/
def execSkipz (s : State) : Result := skipPopWhen (cell 0 s == 0) s

/-- `skipnc` (R244). -/
def execSkipnc (s : State) : Result := skipWhen (!s.carry) s

/-- `skipnn` (R245). -/
def execSkipnn (s : State) : Result := skipPopWhen (!(cell 0 s).msb) s

/-- `skipp`, another name of `skipnn` (R245). -/
def execSkipp (s : State) : Result := skipPopWhen (!(cell 0 s).msb) s

/-- `skipnz` (R246). -/
def execSkipnz (s : State) : Result := skipPopWhen (cell 0 s != 0) s

/-! Micro-loops (R247). -/

/-- Back to byte 0 of the group in the latch, without a fetch (R247). -/
def loopBack (s : State) : State := s.setFlow { s.flow with pc := groupAddress s, bytelit := false }

/-- `ct` is decremented; the group is executed again while `ct` is not zero and the condition holds. -/
def mloopWhen (c : Bool) (s : State) : Result :=
  let s1 := s.setCt (s.ct - 1)
  .next (if s1.ct ≠ 0 ∧ c = true then loopBack s1 else advance s1)

/-- `mloop` (R248). -/
def execMloop (s : State) : Result := mloopWhen true s

/-- `mloopc` (R249). -/
def execMloopc (s : State) : Result := mloopWhen s.carry s

/-- `mloopn` (R250). -/
def execMloopn (s : State) : Result := mloopWhen (cell 0 s).msb s

/-- `mloopnp`, another name of `mloopn` (R250). -/
def execMloopnp (s : State) : Result := mloopWhen (cell 0 s).msb s

/-- `mloopz` (R251). -/
def execMloopz (s : State) : Result := mloopWhen (cell 0 s == 0) s

/-- `mloopnc` (R252). -/
def execMloopnc (s : State) : Result := mloopWhen (!s.carry) s

/-- `mloopnn` (R253). -/
def execMloopnn (s : State) : Result := mloopWhen (!(cell 0 s).msb) s

/-- `mloopp`, another name of `mloopnn` (R253). -/
def execMloopp (s : State) : Result := mloopWhen (!(cell 0 s).msb) s

/-- `mloopnz` (R254). -/
def execMloopnz (s : State) : Result := mloopWhen (cell 0 s != 0) s

end Sys2Proof.Machine
end

