-- ==== Sys2Proof/Machine/Float.lean ====
section
/-! DEFINITION. Floating-point support instructions (spec/48_float.md). Every signal of an exception is on the state
whose results are written (R464); `d` is `fp_precision`. -/

namespace Sys2Proof.Machine

/-- `addexp` and `subexp` for an exponent result `e` (R402, R403). -/
def exponentResult (e : Int) (s : State) : Result :=
  let d := s.double
  let n1 := cell 1 s
  let n2 := cell 0 s
  let n5 := ((n1 ^^^ n2) &&& signMask) ||| expField d e
  let s1 := signalWhen (decide (expMax d ≤ e)) .fpOvf s
  stackResult 2 [n5, sigOf d n2, sigOf d n1] (signalWhen (decide (e ≤ 0)) .fpUnf s1)

/-- `addexp` (R402). -/
def execAddexp (s : State) : Result :=
  let d := s.double
  exponentResult ((expOf d (cell 1 s) : Int) - bias d + (expOf d (cell 0 s) : Int)) s

/-- `subexp` (R403). -/
def execSubexp (s : State) : Result :=
  let d := s.double
  exponentResult ((expOf d (cell 1 s) : Int) - (expOf d (cell 0 s) : Int) + bias d - 1) s

/-- `expdif` (R404). -/
def execExpdif (s : State) : Result :=
  let d := s.double
  let e : Int := (expOf d (cell 1 s) : Int) - (expOf d (cell 0 s) : Int)
  stackResult 2 [sigOf d (cell 0 s), sigOf d (cell 1 s)]
    (s.setCt ((s.ct &&& 0x0000FFFF) ||| expField d e))

/-- `extexp` (R405). -/
def execExtexp (s : State) : Result := stackResult 1 [cell 0 s &&& (signMask ||| expMask s.double)] s

/-- `extsig` (R406). -/
def execExtsig (s : State) : Result := stackResult 1 [sigOf s.double (cell 0 s)] s

/-- The GRS extension cleared. -/
def noGrs : Grs := ⟨false, false, false⟩

/-- `replexp` (R407). -/
def execReplexp (s : State) : Result :=
  let d := s.double
  stackResult 2 [(cell 1 s &&& sigMask d) ||| (cell 0 s &&& (signMask ||| expMask d))] (setGrs noGrs s)

/-- `testexp` (R408). -/
def execTestexp (s : State) : Result :=
  let special := specialExp s.double (cell 1 s) || specialExp s.double (cell 0 s)
  .next (advance (signalWhen special .fpExp (setCarry special (setGrs noGrs s))))

/-- The significand's width in bits (R409). -/
def sigWidth (d : Bool) : Nat := if d then 52 else 23

/-- The value and the GRS extension that `denorm` leaves for a count (R409): zeros enter at the top (D17). -/
def denormValue (d : Bool) (count : Nat) (p : BitVec 64 × Grs) : BitVec 64 × Grs :=
  if sigWidth d + 3 < count then (0, ⟨false, false, true⟩) else iter count (shiftRightStep false) p

/-- Write a significand operand, the GRS extension and the exponent field of `ct`, signal, and advance. -/
def normalizedResult (v : BitVec 64) (e : Grs) (exponent : Int) (signals : State → State) (s : State) : Result :=
  let s1 := (setGrs e s).setCt (withExp s.double s.ct exponent)
  sigResult v (signalWhen (grsAny e) .fpNrm (signals s1))

/-- `denorm` (R409). -/
def execDenorm (s : State) : Result :=
  let r := denormValue s.double (expOf s.double s.ct) (sigOperand s, grsOf s.mode)
  normalizedResult r.1 r.2 0 id s

/-- The loop of `normr` (R410): shift right while an exponent bit above the hidden bit is set (D19). The answer counts
the shifts. -/
def normrLoop (d : Bool) (fuel : Nat) (p : BitVec 64 × Grs) : (BitVec 64 × Grs) × Nat :=
  match fuel with
  | 0 => (p, 0)
  | n + 1 =>
    if sigTop d p.1 &&& (expMask d &&& ~~~hiddenBit d) = 0 then (p, 0)
    else
      let r := normrLoop d n (shiftRightStep false p)
      (r.1, r.2 + 1)

/-- `normr` (R410). The loop ends after at most 7 or 10 shifts, those of the exponent bits above the hidden bit. -/
def execNormr (s : State) : Result :=
  let d := s.double
  let r := normrLoop d 11 (sigOperand s, grsOf s.mode)
  let e : Int := (expOf d s.ct : Int) + (r.2 : Int)
  normalizedResult r.1.1 r.1.2 e (signalWhen (decide (0 < r.2) && decide (expMax d ≤ e)) .fpOvf) s

/-- A loop of `norml` (R412): shift left by `k` bits while the bits of `mask` in the top cell are zero. -/
def normlLoop (d : Bool) (mask : Word) (k fuel : Nat) (p : BitVec 64 × Grs) : (BitVec 64 × Grs) × Nat :=
  match fuel with
  | 0 => (p, 0)
  | n + 1 =>
    if sigTop d p.1 &&& mask ≠ 0 then (p, 0)
    else
      let r := normlLoop d mask k n (iter k shiftLeftGrsStep p)
      (r.1, r.2 + k)

/-- Would `norml` never end: every bit from the hidden bit down, and the GRS extension, zero (U12)? -/
def nothingToNormalize (d : Bool) (v : BitVec 64) (e : Grs) : Bool :=
  (sigTop d v &&& (hiddenBit d ||| sigMask d)) == 0 && (!d || v.extractLsb' 0 32 == 0#32) && !grsAny e

/-- `norml` (R412). By bytes, then by bits: at most 6 byte steps and 7 bit steps. Where it would not end, its results,
`ct` and GRS are free values, and it signals by them (U12, log 19). -/
def execNorml (s : State) : Result :=
  let d := s.double
  if nothingToNormalize d (sigOperand s) (grsOf s.mode) then
    let e := grsOf (freeVal 3 s)
    let s1 := (setGrs e s).setCt (freeVal 2 s)
    let s2 := signalWhen ((freeVal 3 s).getLsbD 0) .fpUnf s1
    sigResult (freeVal 0 s ++ freeVal 1 s) (useFree 4 (signalWhen (grsAny e) .fpNrm s2))
  else
    let r := normlLoop d (byteMask d) 8 8 (sigOperand s, grsOf s.mode)
    let q := normlLoop d (hiddenBit d) 1 8 r.1
    let k := r.2 + q.2
    let e : Int := (expOf d s.ct : Int) - (k : Int)
    normalizedResult q.1.1 q.1.2 e (signalWhen (decide (0 < k) && decide (e ≤ 0)) .fpUnf) s

/-- `rnd` (R413): always on s0. -/
def execRnd (s : State) : Result :=
  let n1 := cell 0 s
  match roundAction s.roundMode (s.ct.getLsbD 31) (grsOf s.mode) with
  | .nothing => stackResult 1 [n1] (setCarry false s)
  | .increment =>
    stackResult 1 [n1 + 1] (signal .fpRnd (setCarry (n1 == Word.allOnes) s))
  | .incrementClearBit0 =>
    let n2 := (n1 + 1) &&& ~~~1#32
    stackResult 1 [n2] (signalWhen (n2 != n1) .fpRnd (setCarry (n1 == Word.allOnes) s))

end Sys2Proof.Machine
end

