-- ==== Sys2Proof/Machine/Literals.lean ====
section
/-! DEFINITION. Literal instructions (spec/43_literals.md). -/

namespace Sys2Proof.Machine

/-- `push.n #n` (R280). -/
def execPushN (n : BitVec 4) (s : State) : Result := stackResult 0 [nibbleValue n] s

/-- `push.b #n` (R281): zero-extended; byte 3 of the group is then data. -/
def execPushB (n : Byte) (s : State) : Result :=
  stackResult 0 [n.setWidth 32] (s.setFlow { s.flow with bytelit := true })

/-- `push.l #n` (R282): the literal is the cell at `npc`, and `npc` moves past it. Repeated by a micro-loop it is
refused (R247, D24; log 26). -/
def execPushL (s : State) : Result :=
  if literalTaken s then .refused .literalInMicroLoop
  else
    let r := busRead s.flow.npc s
    stackResult 0 [r.1] (r.2.setFlow { r.2.flow with npc := r.2.flow.npc + 4 })

end Sys2Proof.Machine
end

