-- ==== Sys2Proof/Machine/LoadStore.lean ====
section
/-! DEFINITION. Loads and stores (spec/45_load_store.md). The two low address bits are ignored by the access, and the
address register keeps all 32 bits (R330). -/

namespace Sys2Proof.Machine

/-- Read the cell that holds `a`, pop `k` cells, push what `f` makes of it, and advance. Where the read faults the
pushed value is not defined (R330, U8): it is the free value as it comes, all 32 bits of it, also for a byte or a word
(log 7). -/
def loadWith (k : Nat) (a : Word) (f : Word → Word) (s : State) : Result :=
  let r := busRead a s
  stackResult k [if readFaults s then r.1 else f r.1] r.2

/-- Write the cell that holds `a`, and advance. -/
def storeTo (a v : Word) (s : State) : Result := andThen (memStore a v s) fun s1 => .next (advance s1)

/-- Pop a cell, write the cell that holds `a`, and advance. -/
def storeWith (a v : Word) (s : State) : Result := andThen (replaceS 1 [] s) (storeTo a v)

/-- `ld []` (R337). -/
def execLdS0 (s : State) : Result := loadWith 1 (cell 0 s) id s

/-- `ld [x]` (R336). -/
def execLdX (s : State) : Result := loadWith 0 s.x id s

/-- `ld [x++]` (R335). -/
def execLdXInc (s : State) : Result := loadWith 0 s.x id (s.setX (s.x + 4))

/-- `ld [--x]` (R332). -/
def execLdDecX (s : State) : Result := loadWith 0 (s.x - 4) id (s.setX (s.x - 4))

/-- `r0` brought into the cache: it always is there once the stack is allocated (10_state.md R30, R33). -/
def withR0 (s : State) : State := reach 0 s

/-- `ld [r0]` (R334). -/
def execLdR0 (s : State) : Result :=
  let s1 := withR0 s
  loadWith 0 (topL s1) id s1

/-- `ld [r0++]` (R333). -/
def execLdR0Inc (s : State) : Result :=
  let s1 := withR0 s
  loadWith 0 (topL s1) id (setLocalReg 0 (topL s1 + 4) s1)

/-- `ld [--r0]` (R331). -/
def execLdDecR0 (s : State) : Result :=
  let s1 := withR0 s
  loadWith 0 (topL s1 - 4) id (setLocalReg 0 (topL s1 - 4) s1)

/-- `ld.b []` (R338): zero-extended, but for the value of a faulted read (log 7). -/
def execLdB (s : State) : Result :=
  loadWith 1 (cell 0 s) (fun c => (Memory.byteAt c (cell 0 s)).setWidth 32) s

/-- `ld.w []` (R339): zero-extended (D21), but for the value of a faulted read (log 7). -/
def execLdW (s : State) : Result :=
  loadWith 1 (cell 0 s) (fun c => (Memory.wordAt c (cell 0 s)).setWidth 32) s

/-- `st []` (R346): the address is popped, the stored cell stays. -/
def execStS0 (s : State) : Result := storeWith (cell 0 s) (cell 1 s) s

/-- `st [x]` (R345). -/
def execStX (s : State) : Result := storeWith s.x (cell 0 s) s

/-- `st [x++]` (R344). -/
def execStXInc (s : State) : Result := storeWith s.x (cell 0 s) (s.setX (s.x + 4))

/-- `st [--x]` (R341). -/
def execStDecX (s : State) : Result := storeWith (s.x - 4) (cell 0 s) (s.setX (s.x - 4))

/-- `st [r0]` (R343). -/
def execStR0 (s : State) : Result :=
  andThen (replaceS 1 [] s) fun s0 =>
    let s1 := withR0 s0
    storeTo (topL s1) (cell 0 s) s1

/-- `st [r0++]` (R342). -/
def execStR0Inc (s : State) : Result :=
  andThen (replaceS 1 [] s) fun s0 =>
    let s1 := withR0 s0
    storeTo (topL s1) (cell 0 s) (setLocalReg 0 (topL s1 + 4) s1)

/-- `st [--r0]` (R340). -/
def execStDecR0 (s : State) : Result :=
  andThen (replaceS 1 [] s) fun s0 =>
    let s1 := withR0 s0
    storeTo (topL s1 - 4) (cell 0 s) (setLocalReg 0 (topL s1 - 4) s1)

end Sys2Proof.Machine
end

