-- ==== Sys2Proof/Machine/Move.lean ====
section
/-! DEFINITION. Data movement and stack data management (spec/44_data_movement.md). -/

namespace Sys2Proof.Machine

/-- `push gi` (R291). -/
def execPushG (i : Fin 16) (s : State) : Result := stackResult 0 [s.g[i]] s

/-- `pop gi` (R292). -/
def execPopG (i : Fin 16) (s : State) : Result := stackResult 1 [] (s.setG (s.g.set i (cell 0 s)))

/-- `push ri` (R293). -/
def execPushR (i : Fin 16) (s : State) : Result :=
  let s1 := reach i.val s
  stackResult 0 [localReg i.val s1] s1

/-- `pop ri` (R294). -/
def execPopR (i : Fin 16) (s : State) : Result :=
  andThen (replaceS 1 [] s) fun s1 => .next (advance (setLocalReg i.val (cell 0 s) (reach i.val s1)))

/-- `push ct` (R295). -/
def execPushCt (s : State) : Result := stackResult 0 [s.ct] s

/-- `pop ct` (R296). -/
def execPopCt (s : State) : Result := stackResult 1 [] (s.setCt (cell 0 s))

/-- `push x` (R297). -/
def execPushX (s : State) : Result := stackResult 0 [s.x] s

/-- `pop x` (R298). -/
def execPopX (s : State) : Result := stackResult 1 [] (s.setX (cell 0 s))

/-- `push mode` (R299). -/
def execPushMode (s : State) : Result := stackResult 0 [s.mode] s

/-- Remember the `interrupt_en` that holds before an instruction changes it (10_state.md R66). -/
def noteEnable (s : State) : State := s.setCtl { s.ctl with ieOld := some s.interruptEn }

/-- Remember the `mode` whose trap enables apply until the next instruction (R300; log 41). -/
def noteTrapEnables (s : State) : State := s.setCtl { s.ctl with enOld := some s.mode }

/-- `pop mode` (R300): the trap enables it writes apply from the next instruction on. -/
def execPopMode (s : State) : Result :=
  stackResult 1 [] ((noteTrapEnables (noteEnable s)).setMode (writtenMode s.mode (cell 0 s)))

/-- `push` (R301). -/
def execPushDup (s : State) : Result := stackResult 0 [cell 0 s] s

/-- `push s0`, another name of `push` (R301). -/
def execPushS0 (s : State) : Result := stackResult 0 [cell 0 s] s

/-- `push s1` (R302). -/
def execPushS1 (s : State) : Result := stackResult 0 [cell 1 s] s

/-- Does an instruction that reads s2 find it not allocated, so that a free value is used (log 15)? -/
def s2Missing (s : State) : Bool := decide (s.os.cells.length ≤ 2)

/-- `push s2` (R303). -/
def execPushS2 (s : State) : Result :=
  stackResult 0 [cell 2 s] (if s2Missing s then useFree 1 s else s)

/-- `pop` (R304). -/
def execPopDrop (s : State) : Result := stackResult 1 [] s

/-- `xcg` (R305). -/
def execXcg (s : State) : Result := stackResult 2 [cell 1 s, cell 0 s] s

/-- `rev` (R306): s0, s1, s2 become the old s2, s0, s1. While s2 is not allocated it stays so (log 15). -/
def execRev (s : State) : Result :=
  if s2Missing s then stackResult 2 [cell 2 s, cell 0 s] (useFree 1 s)
  else stackResult 3 [cell 2 s, cell 0 s, cell 1 s] s

/-- `push lstack` (R307). -/
def execPushLstack (s : State) : Result := popL s fun n s1 => stackResult 0 [n] s1

/-- `pop lstack` (R308). -/
def execPopLstack (s : State) : Result := stackResult 1 [] (pushL (cell 0 s) s)

end Sys2Proof.Machine
end

