-- ==== Sys2Proof/Machine/Shift.lean ====
section
/-! DEFINITION. Shift, multiply and divide instructions (spec/41_alu_shift_muldiv.md). -/

namespace Sys2Proof.Machine

/-- `shl #1` (R201). -/
def execShl1 (s : State) : Result := stackResult 1 [cell 0 s <<< 1] (setCarry ((cell 0 s).getLsbD 31) s)

/-- `shl #8` (R202). -/
def execShl8 (s : State) : Result := stackResult 1 [cell 0 s <<< 8] (setCarry ((cell 0 s).getLsbD 24) s)

/-- The cell pair of s0 (high) and s1 (low) (R200). -/
def cellPair (s : State) : BitVec 64 := cell 0 s ++ cell 1 s

/-- `shld #1` (R203). -/
def execShld1 (s : State) : Result :=
  let r := shiftLeftStep (cellPair s, s.carry)
  stackResult 2 [r.1.extractLsb' 32 32, r.1.extractLsb' 0 32] (setCarry r.2 s)

/-- `shr #1` (R204). -/
def execShr1 (s : State) : Result :=
  let r := shiftRightStep s.carry (cell 0 s, grsOf s.mode)
  stackResult 1 [r.1] (setGrs r.2 s)

/-- `shr #8` (R205). -/
def execShr8 (s : State) : Result :=
  let r := iter 8 (shiftRightStep s.carry) (cell 0 s, grsOf s.mode)
  stackResult 1 [r.1] (setGrs r.2 s)

/-- `shrd #1` (R206). -/
def execShrd1 (s : State) : Result :=
  let r := shiftRightStep s.carry (cellPair s, grsOf s.mode)
  stackResult 2 [r.1.extractLsb' 32 32, r.1.extractLsb' 0 32] (setGrs r.2 s)

/-- The magnitude of a shift count: its six low bits (R207). -/
def shiftCount (c : Word) : Nat := (c.extractLsb' 0 6).toNat

/-- The direction of a shift count: its bit 31 (R207). -/
def shiftsRight (c : Word) : Bool := c.getLsbD 31

/-- `shift` (R208): s0 is the count, s1 the value. -/
def execShift (s : State) : Result :=
  let n := shiftCount (cell 0 s)
  if shiftsRight (cell 0 s) then
    let r := iter n (shiftRightStep s.carry) (cell 1 s, grsOf s.mode)
    stackResult 2 [r.1] (setGrs r.2 s)
  else
    let r := iter n shiftLeftStep (cell 1 s, s.carry)
    stackResult 2 [r.1] (setCarry r.2 s)

/-- `shiftd` (R209): s0 is the count, s1 the high cell, s2 the low cell. -/
def execShiftd (s : State) : Result :=
  let n := shiftCount (cell 0 s)
  let v : BitVec 64 := cell 1 s ++ cell 2 s
  if shiftsRight (cell 0 s) then
    let r := iter n (shiftRightStep s.carry) (v, grsOf s.mode)
    stackResult 3 [r.1.extractLsb' 32 32, r.1.extractLsb' 0 32] (setGrs r.2 s)
  else
    let r := iter n shiftLeftStep (v, s.carry)
    stackResult 3 [r.1.extractLsb' 32 32, r.1.extractLsb' 0 32] (setCarry r.2 s)

/-- `g0`, the implicit operand of the multiplies and the divide (10_state.md R36). -/
def g0 (s : State) : Word := s.g[0]

/-- `mulu` (R210). -/
def execMulu (s : State) : Result :=
  let p : BitVec 64 := BitVec.ofNat 64 ((cell 1 s).toNat * (g0 s).toNat + (cell 0 s).toNat)
  stackResult 2 [p.extractLsb' 32 32, p.extractLsb' 0 32] s

/-- `muls` (R211). -/
def execMuls (s : State) : Result :=
  let p : BitVec 64 := BitVec.ofInt 64 ((cell 1 s).toInt * (g0 s).toInt + (cell 0 s).toInt)
  stackResult 2 [p.extractLsb' 32 32, p.extractLsb' 0 32] s

/-- The multiplier of `mulfs`: the low `k` bits of `n1` in reverse order, signed (R212). -/
def reversedMultiplier (n1 : Word) (k : Nat) : Int := ((n1.setWidth k).reverse).toInt

/-- `mulfs` (R212): the count is `ct`, 1 to 32; outside that range the results, `ct` and the GRS extension are free
values (U12, log 19). -/
def execMulfs (s : State) : Result :=
  let k := s.ct.toNat
  if 1 ≤ k ∧ k ≤ 32 then
    let n4 : Word :=
      BitVec.ofInt 32 ((g0 s).toInt * reversedMultiplier (cell 1 s) k + (((cell 0 s).toNat <<< k : Nat) : Int))
    let n3 : Word := (cellPair s >>> k).extractLsb' 0 32
    stackResult 2 [n4, n3] (s.setCt 0)
  else
    stackResult 2 [freeVal 0 s, freeVal 1 s] (useFree 4 (setGrs (grsOf (freeVal 3 s)) (s.setCt (freeVal 2 s))))

/-- `divu` (R213): the remainder is left in s0 and the quotient in s1; a quotient that does not fit gives free values
(U13, log 20). -/
def execDivu (s : State) : Result :=
  let d := (g0 s).toNat
  let n := (cellPair s).toNat
  if d = 0 then stackResult 2 [cell 0 s, cell 1 s] s
  else if d ≤ (cell 0 s).toNat then stackResult 2 [freeVal 0 s, freeVal 1 s] (useFree 2 s)
  else stackResult 2 [BitVec.ofNat 32 (n % d), BitVec.ofNat 32 (n / d)] s

end Sys2Proof.Machine
end

