-- ==== Sys2Proof/Machine/StackCache.lean ====
section
/-! DEFINITION. Stack cache management and stack pointers (spec/46_stack_cache.md). -/

namespace Sys2Proof.Machine

/-- `ldepth` (R360): `max(lcnt - 1, 0)`. -/
def execLdepth (s : State) : Result := stackResult 0 [BitVec.ofNat 32 (s.ls.cells.length - 1)] s

/-- `sdepth` (R361): `max(scnt - 1, 0)`, where `scnt` is the number of cells less 2. -/
def execSdepth (s : State) : Result := stackResult 0 [BitVec.ofNat 32 (s.os.cells.length - 3)] s

/-- The work of `lcache` and `scache`: refill until `n` cells can be removed, or spill until `-n` can be added (R362,
R363). A count outside -14 to 14 is refused (U15). -/
def cacheTo (k : Stk) (n : Int) (s : State) : Result :=
  if n < -14 ∨ 14 < n then .refused .countOutOfRange
  else if 0 < n then .next (fill k (leastCells k + n.toNat) s)
  else if n < 0 then trim s.flow.npc k (mostCells k - (-n).toNat) s
  else .next s

/-- `lcache` (R362). -/
def execLcache (s : State) : Result :=
  andThen (replaceS 1 [] s) fun s1 => andThen (cacheTo .ls (cell 0 s).toInt s1) fun s2 => .next (advance s2)

/-- `scache` (R363): the count stays on the stack. -/
def execScache (s : State) : Result :=
  andThen (cacheTo .os (cell 0 s).toInt s) fun s1 => .next (advance s1)

/-- `n` uninitialized cells (U14, log 21). -/
def newCells (n : Nat) (s : State) : List Word := (List.range n).map fun i => freeVal i s

/-- `lframe` with a positive count: new cells on top of the local-register stack (R364). -/
def allocateL (n : Nat) (s : State) : State :=
  useFree n (s.setLs { s.ls with cells := newCells n s ++ s.ls.cells, active := true })

/-- `sframe` with a positive count: new cells under s0 and s1 (R365). -/
def allocateS (n : Nat) (s : State) : State :=
  useFree n (s.setOs { s.os with
    cells := s.os.cells.take 2 ++ newCells n s ++ s.os.cells.drop 2, active := true })

/-- Discard `n` cells below the `keep` that stay; those not on chip cost only a step of the pointer (R364, R365). -/
def discard (k : Stk) (keep n : Nat) (s : State) : State :=
  let st := stackOf k s
  let onChip := st.cells.length - keep
  setStack k { st with
    cells := st.cells.take keep ++ st.cells.drop (keep + n)
    ptr := st.ptr + BitVec.ofNat 32 (4 * (n - onChip)) } s

/-- `lframe` (R364). A count outside -15 to 15 is refused (U15); a stack not allocated yet may not shrink (U3). -/
def execLframe (s : State) : Result :=
  let n := (cell 0 s).toInt
  andThen (replaceS 1 [] s) fun s1 =>
    if n < -15 ∨ 15 < n then .refused .countOutOfRange
    else if 0 < n then .next (advance (allocateL n.toNat s1))
    else if n < 0 then
      if s1.ls.active then .next (advance (discard .ls 0 (-n).toNat s1)) else .refused .unallocatedStack
    else .next (advance s1)

/-- `sframe` (R365). A count outside -15 to 15 is refused (U15); a stack not allocated yet may not shrink (U3). -/
def execSframe (s : State) : Result :=
  let n := (cell 0 s).toInt
  if n < -15 ∨ 15 < n then .refused .countOutOfRange
  else if 0 < n then .next (advance (allocateS n.toNat s))
  else if n < 0 then
    if s.os.active then .next (advance (discard .os 2 (-n).toNat s)) else .refused .unallocatedStack
  else .next (advance s)

/-- `pop sa` (R366): the array is discarded, the pointer is loaded, the boundary bit is cleared, the stack is allocated;
`Normalize` then refills s2. -/
def execPopSa (s : State) : Result :=
  let missing := decide (s.os.cells.length ≤ 2)
  let s1 := s.setOs { cells := [cell 1 s, cell 2 s], ptr := Memory.cellAddress (cell 0 s), active := true }
  .next (advance (setBoundary .os false (if missing then useFree 1 s1 else s1)))

/-- `pop la` (R367); `Normalize` then refills r0. -/
def execPopLa (s : State) : Result :=
  andThen (replaceS 1 [] s) fun s1 =>
    let s2 := s1.setLs { cells := [], ptr := Memory.cellAddress (cell 0 s), active := true }
    .next (advance (setBoundary .ls false s2))

/-- `push sa` (R368). -/
def execPushSa (s : State) : Result := stackResult 0 [s.os.ptr] s

/-- `push la` (R369). -/
def execPushLa (s : State) : Result := stackResult 0 [s.ls.ptr] s

end Sys2Proof.Machine
end

