-- ==== Sys2Proof/Machine/System.lean ====
section
/-! DEFINITION. Debugging, on-chip resources, interrupt enable (spec/49_debug_onchip_misc.md), and the unassigned
opcode values (30_encoding.md R140). -/

namespace Sys2Proof.Machine

/-- `bkpt` (R430): the return address is that of this opcode. -/
def execBkpt (s : State) : Result := .next (raiseTrap breakpointVector s.flow.pc s)

/-- Write `step_pending` (10_state.md R67). -/
def setStepPending (b : Bool) (s : State) : State := s.setCtl { s.ctl with stepPending := b }

/-- `step` (R431): return, with the single-step trap armed for the instruction after this one. -/
def execStep (s : State) : Result := popL s fun a s1 => transferTo a (setStepPending true s1)

/-- `ldo []` (R432). -/
def execLdo (s : State) : Result :=
  match resRead (cell 0 s) s with
  | some r => stackResult 1 [r.1] r.2
  | none => .refused .badResourceAddress

/-- `ldo.i []` (R433). -/
def execLdoI (s : State) : Result :=
  match bitRegAt (cell 0 s) with
  | some r =>
    stackResult 1 [if (readByteReg r s).getLsbD (bitIndex (cell 0 s)) then Word.allOnes else 0] s
  | none => .refused .badResourceAddress

/-- `sto []` (R434): the stored cell stays. -/
def execSto (s : State) : Result :=
  andThen (replaceS 1 [] s) fun s1 =>
    match resWrite (cell 0 s) (cell 1 s) s1 with
    | some s2 => .next (advance s2)
    | none => .refused .badResourceAddress

/-- `sto.i []` (R435): any non-zero cell sets the bit. -/
def execStoI (s : State) : Result :=
  andThen (replaceS 1 [] s) fun s1 =>
    match bitRegAt (cell 0 s) with
    | some r => .next (advance (writeByteRegBit r (bitIndex (cell 0 s)) (cell 1 s != 0) s1))
    | none => .refused .badResourceAddress

/-- Write `interrupt_en`, remembering the old value for the next recognition (10_state.md R66). -/
def changeEnable (b : Bool) (s : State) : State :=
  (s.setCtl { s.ctl with ieOld := some s.interruptEn }).setMode (putBit s.mode bitInterruptEn b)

/-- `ei` (R436). -/
def execEi (s : State) : Result := .next (advance (changeEnable true s))

/-- `di` (R437). -/
def execDi (s : State) : Result := .next (advance (changeEnable false s))

/-! The unassigned values (R140, U1). -/

/-- 0x43 (R140). -/
def execUnassigned43 (_s : State) : Result := .refused (.unassignedOpcode 0x43)

/-- 0x47 (R140). -/
def execUnassigned47 (_s : State) : Result := .refused (.unassignedOpcode 0x47)

/-- 0x63 (R140). -/
def execUnassigned63 (_s : State) : Result := .refused (.unassignedOpcode 0x63)

/-- 0x65 (R140). -/
def execUnassigned65 (_s : State) : Result := .refused (.unassignedOpcode 0x65)

/-- 0x67 (R140). -/
def execUnassigned67 (_s : State) : Result := .refused (.unassignedOpcode 0x67)

/-- 0x6A (R140). -/
def execUnassigned6A (_s : State) : Result := .refused (.unassignedOpcode 0x6A)

/-- 0x6B (R140). -/
def execUnassigned6B (_s : State) : Result := .refused (.unassignedOpcode 0x6B)

/-- 0x6C (R140). -/
def execUnassigned6C (_s : State) : Result := .refused (.unassignedOpcode 0x6C)

/-- 0x6D (R140). -/
def execUnassigned6D (_s : State) : Result := .refused (.unassignedOpcode 0x6D)

/-- 0x8F (R140). -/
def execUnassigned8F (_s : State) : Result := .refused (.unassignedOpcode 0x8F)

/-- 0xAF (R140). -/
def execUnassignedAF (_s : State) : Result := .refused (.unassignedOpcode 0xAF)

/-- 0xF0 to 0xFF (R140). -/
def execUnassignedF (low : BitVec 4) (_s : State) : Result := .refused (.unassignedOpcode (0xF#4 ++ low))

end Sys2Proof.Machine
end

