-- ==== Sys2Proof/Machine/Dispatch.lean ====
section
/-! DEFINITION. What each instruction does: steps 3 and 4 of the instruction cycle (10_state.md R24), one meaning per
instruction, in the order of spec/opcode_table.json. -/

namespace Sys2Proof.Machine

def exec (i : Instr) (s : State) : Host.Outcome State Fault Refusal :=
  match i with
  | .brOffset o => Sys2Proof.Machine.execBrOffset o s
  | .callOffset o => Sys2Proof.Machine.execCallOffset o s
  | .bzOffset o => Sys2Proof.Machine.execBzOffset o s
  | .dbrOffset o => Sys2Proof.Machine.execDbrOffset o s
  | .pushN n => Sys2Proof.Machine.execPushN n s
  | .skip => Sys2Proof.Machine.execSkip s
  | .skipc => Sys2Proof.Machine.execSkipc s
  | .skipn => Sys2Proof.Machine.execSkipn s
  | .skipnp => Sys2Proof.Machine.execSkipnp s
  | .skipz => Sys2Proof.Machine.execSkipz s
  | .step => Sys2Proof.Machine.execStep s
  | .skipnc => Sys2Proof.Machine.execSkipnc s
  | .skipnn => Sys2Proof.Machine.execSkipnn s
  | .skipp => Sys2Proof.Machine.execSkipp s
  | .skipnz => Sys2Proof.Machine.execSkipnz s
  | .mloop => Sys2Proof.Machine.execMloop s
  | .mloopc => Sys2Proof.Machine.execMloopc s
  | .mloopn => Sys2Proof.Machine.execMloopn s
  | .mloopnp => Sys2Proof.Machine.execMloopnp s
  | .mloopz => Sys2Proof.Machine.execMloopz s
  | .bkpt => Sys2Proof.Machine.execBkpt s
  | .mloopnc => Sys2Proof.Machine.execMloopnc s
  | .mloopnn => Sys2Proof.Machine.execMloopnn s
  | .mloopp => Sys2Proof.Machine.execMloopp s
  | .mloopnz => Sys2Proof.Machine.execMloopnz s
  | .ldS0 => Sys2Proof.Machine.execLdS0 s
  | .ldX => Sys2Proof.Machine.execLdX s
  | .ldR0 => Sys2Proof.Machine.execLdR0 s
  | .unassigned43 => Sys2Proof.Machine.execUnassigned43 s
  | .ldDecR0 => Sys2Proof.Machine.execLdDecR0 s
  | .scache => Sys2Proof.Machine.execScache s
  | .ldR0Inc => Sys2Proof.Machine.execLdR0Inc s
  | .unassigned47 => Sys2Proof.Machine.execUnassigned47 s
  | .ldB => Sys2Proof.Machine.execLdB s
  | .ldXInc => Sys2Proof.Machine.execLdXInc s
  | .ldDecX => Sys2Proof.Machine.execLdDecX s
  | .brIndirect => Sys2Proof.Machine.execBrIndirect s
  | .ldW => Sys2Proof.Machine.execLdW s
  | .lcache => Sys2Proof.Machine.execLcache s
  | .callIndirect => Sys2Proof.Machine.execCallIndirect s
  | .pushL => Sys2Proof.Machine.execPushL s
  | .popG r => Sys2Proof.Machine.execPopG r s
  | .stS0 => Sys2Proof.Machine.execStS0 s
  | .stX => Sys2Proof.Machine.execStX s
  | .stR0 => Sys2Proof.Machine.execStR0 s
  | .unassigned63 => Sys2Proof.Machine.execUnassigned63 s
  | .stDecR0 => Sys2Proof.Machine.execStDecR0 s
  | .unassigned65 => Sys2Proof.Machine.execUnassigned65 s
  | .stR0Inc => Sys2Proof.Machine.execStR0Inc s
  | .unassigned67 => Sys2Proof.Machine.execUnassigned67 s
  | .stDecX => Sys2Proof.Machine.execStDecX s
  | .stXInc => Sys2Proof.Machine.execStXInc s
  | .unassigned6A => Sys2Proof.Machine.execUnassigned6A s
  | .unassigned6B => Sys2Proof.Machine.execUnassigned6B s
  | .unassigned6C => Sys2Proof.Machine.execUnassigned6C s
  | .unassigned6D => Sys2Proof.Machine.execUnassigned6D s
  | .ret => Sys2Proof.Machine.execRet s
  | .reti => Sys2Proof.Machine.execReti s
  | .pushG r => Sys2Proof.Machine.execPushG r s
  | .pushR r => Sys2Proof.Machine.execPushR r s
  | .unassigned8F => Sys2Proof.Machine.execUnassigned8F s
  | .pushB n => Sys2Proof.Machine.execPushB n s
  | .pushMode => Sys2Proof.Machine.execPushMode s
  | .pushDup => Sys2Proof.Machine.execPushDup s
  | .pushS0 => Sys2Proof.Machine.execPushS0 s
  | .pushS1 => Sys2Proof.Machine.execPushS1 s
  | .pushCt => Sys2Proof.Machine.execPushCt s
  | .sexw => Sys2Proof.Machine.execSexw s
  | .ldo => Sys2Proof.Machine.execLdo s
  | .ldoI => Sys2Proof.Machine.execLdoI s
  | .pushX => Sys2Proof.Machine.execPushX s
  | .split => Sys2Proof.Machine.execSplit s
  | .pushLstack => Sys2Proof.Machine.execPushLstack s
  | .ldepth => Sys2Proof.Machine.execLdepth s
  | .pushSa => Sys2Proof.Machine.execPushSa s
  | .pushLa => Sys2Proof.Machine.execPushLa s
  | .pushS2 => Sys2Proof.Machine.execPushS2 s
  | .sdepth => Sys2Proof.Machine.execSdepth s
  | .popR r => Sys2Proof.Machine.execPopR r s
  | .unassignedAF => Sys2Proof.Machine.execUnassignedAF s
  | .sto => Sys2Proof.Machine.execSto s
  | .stoI => Sys2Proof.Machine.execStoI s
  | .xcg => Sys2Proof.Machine.execXcg s
  | .popDrop => Sys2Proof.Machine.execPopDrop s
  | .popCt => Sys2Proof.Machine.execPopCt s
  | .replexp => Sys2Proof.Machine.execReplexp s
  | .ei => Sys2Proof.Machine.execEi s
  | .di => Sys2Proof.Machine.execDi s
  | .popX => Sys2Proof.Machine.execPopX s
  | .popMode => Sys2Proof.Machine.execPopMode s
  | .popLstack => Sys2Proof.Machine.execPopLstack s
  | .addPc => Sys2Proof.Machine.execAddPc s
  | .popSa => Sys2Proof.Machine.execPopSa s
  | .popLa => Sys2Proof.Machine.execPopLa s
  | .lframe => Sys2Proof.Machine.execLframe s
  | .sframe => Sys2Proof.Machine.execSframe s
  | .add => Sys2Proof.Machine.execAdd s
  | .decCt => Sys2Proof.Machine.execDecCt s
  | .addc => Sys2Proof.Machine.execAddc s
  | .xor => Sys2Proof.Machine.execXor s
  | .expdif => Sys2Proof.Machine.execExpdif s
  | .denorm => Sys2Proof.Machine.execDenorm s
  | .normr => Sys2Proof.Machine.execNormr s
  | .norml => Sys2Proof.Machine.execNorml s
  | .sub => Sys2Proof.Machine.execSub s
  | .neg => Sys2Proof.Machine.execNeg s
  | .subb => Sys2Proof.Machine.execSubb s
  | .cmp => Sys2Proof.Machine.execCmp s
  | .inc4 => Sys2Proof.Machine.execInc4 s
  | .dec4 => Sys2Proof.Machine.execDec4 s
  | .inc1 => Sys2Proof.Machine.execInc1 s
  | .dec1 => Sys2Proof.Machine.execDec1 s
  | .copyb => Sys2Proof.Machine.execCopyb s
  | .rnd => Sys2Proof.Machine.execRnd s
  | .addexp => Sys2Proof.Machine.execAddexp s
  | .subexp => Sys2Proof.Machine.execSubexp s
  | .testexp => Sys2Proof.Machine.execTestexp s
  | .muls => Sys2Proof.Machine.execMuls s
  | .mulfs => Sys2Proof.Machine.execMulfs s
  | .mulu => Sys2Proof.Machine.execMulu s
  | .sexb => Sys2Proof.Machine.execSexb s
  | .testb => Sys2Proof.Machine.execTestb s
  | .replb => Sys2Proof.Machine.execReplb s
  | .extexp => Sys2Proof.Machine.execExtexp s
  | .extsig => Sys2Proof.Machine.execExtsig s
  | .notc => Sys2Proof.Machine.execNotc s
  | .divu => Sys2Proof.Machine.execDivu s
  | .mxm => Sys2Proof.Machine.execMxm s
  | .or => Sys2Proof.Machine.execOr s
  | .and => Sys2Proof.Machine.execAnd s
  | .shl1 => Sys2Proof.Machine.execShl1 s
  | .shr1 => Sys2Proof.Machine.execShr1 s
  | .rev => Sys2Proof.Machine.execRev s
  | .eqz => Sys2Proof.Machine.execEqz s
  | .shld1 => Sys2Proof.Machine.execShld1 s
  | .shrd1 => Sys2Proof.Machine.execShrd1 s
  | .adda => Sys2Proof.Machine.execAdda s
  | .iand => Sys2Proof.Machine.execIand s
  | .nop => Sys2Proof.Machine.execNop s
  | .replw => Sys2Proof.Machine.execReplw s
  | .shl8 => Sys2Proof.Machine.execShl8 s
  | .shr8 => Sys2Proof.Machine.execShr8 s
  | .shift => Sys2Proof.Machine.execShift s
  | .shiftd => Sys2Proof.Machine.execShiftd s
  | .unassignedF low => Sys2Proof.Machine.execUnassignedF low s

end Sys2Proof.Machine
end

