-- ==== Sys2Proof/Machine/Cycle.lean ====
section
/-! DEFINITION. The instruction cycle (10_state.md R24): the platform's input, the interrupt controller, interrupt
recognition, fetch and decode, and what follows an instruction. `exec` is steps 3 and 4 (log 29). -/

namespace Sys2Proof.Machine

/-! The platform's input and the interrupt controller. -/

/-- The input of this step, taken off the list; where none is listed, no new sample and no reset (log 6, log 32). -/
def takeInput (s : State) : StepInput × State :=
  match s.plat.env with
  | [] => ({ samples := [], reset := none }, s)
  | i :: rest => (i, s.setPlat { s.plat with env := rest })

/-- One update of the interrupt controller with a pin sample (60_exceptions.md R484, R485). -/
def intcTick (s : State) (sample : Byte) : State :=
  let follows := s.res.ioie &&& (s.res.ioip ||| s.res.ioius)
  let ioin := sample &&& (follows ||| s.res.ioin)
  let ioip := s.res.ioip ||| (s.res.ioie &&& ~~~s.res.ioius &&& ~~~ioin)
  (s.setRes { s.res with ioin := ioin, ioip := ioip }).setPlat { s.plat with pins := sample }

/-- The updates before one instruction: one for each sample, at least one (R484, D12; log 6). -/
def samplePins (samples : List Byte) (s : State) : State :=
  match samples with
  | [] => intcTick s s.plat.pins
  | samples => samples.foldl intcTick s

/-! Interrupt recognition (60_exceptions.md R480, R481). -/

/-- Byte 0 of a group is about to execute and nothing blocks interrupts. -/
def recognitionPoint (s : State) : Bool :=
  byteIndex s.flow.pc == 0 && !s.ctl.intBlock && !s.ctl.stepPending

/-- The highest-priority pending interrupt, if it is of higher priority than every one under service. -/
def interruptCandidate (s : State) : Option (Fin 8) :=
  let p := lowestBit s.res.ioip
  if h : p < 8 then (if p < lowestBit s.res.ioius then some ⟨p, h⟩ else none) else none

/-- `interrupt_en` as the recognition sees it: right after `ei`, `di` or `pop mode` the old or the new one
(10_state.md R66, D13; log 14). -/
def effectiveEnable (s : State) : Bool × State :=
  match s.ctl.ieOld with
  | none => (s.interruptEn, s)
  | some old =>
    if old = s.interruptEn then (s.interruptEn, s)
    else ((if Config.seesNewEnable s.free then s.interruptEn else old), useFree 1 s)

/-- `RecognizeInterrupt` (R480). -/
def recognize (s : State) : Option (Fin 8) × State :=
  if recognitionPoint s then
    match interruptCandidate s with
    | none => (none, s)
    | some i =>
      let r := effectiveEnable s
      (if r.1 then some i else none, r.2)
  else (none, s)

/-- Forget what an `ei`, `di` or `pop mode` left behind: the next instruction executes or an interrupt is taken (R66,
44_data_movement.md R300). -/
def beginInstr (s : State) : State := s.setCtl { s.ctl with ieOld := none, enOld := none }

/-- The CPU, which was in state `s0` before this instruction, waits in a transfer that never completes (20_memory.md R97,
U18): what it did to memory, the resource registers and the bus stands, and the instruction does not complete (log 8). -/
def heldUp (s0 s : State) : State := { s0 with mem := s.mem, res := s.res, plat := s.plat, free := s.free }

/-- The end of a step that began in state `s0`. -/
def finish (s0 : State) (r : Result) : Result :=
  andThen r fun s => .next (if s.plat.stuck then heldUp s0 s else s)

/-- `TakeInterrupt` with its `Normalize`, and the traps they make pending (R481, R488). -/
def takeInterrupt (i : Fin 8) (s : State) : State := takePending (normalizeRaw (enterInterrupt i (beginInstr s)))

/-! The instruction. -/

/-- Fetch the group at `pc` where none is latched yet, right after reset (log 4). -/
def latchGroup (s : State) : State := if s.flow.grp = none then enterGroup s.flow.pc s else s

/-- The posted write comes one instruction nearer to its end (R68, log 9). -/
def postedTick (s : State) : State :=
  match s.plat.posted with
  | none => s
  | some p =>
    if p.late = 0 then (if p.dval then finishPosted s else s)
    else s.setPlat { s.plat with posted := some { p with late := p.late - 1 } }

/-- Step 6 of R24: an instruction at byte one ends the blocking of interrupts. `bkpt` itself does not, since it has just
begun it (49_debug_onchip_misc.md R430). -/
def releaseBlock (i : Instr) (here : BitVec 2) (s : State) : State :=
  if here == 1 && i != .bkpt then setIntBlock false s else s

/-- Step 7 of R24. After `step` itself no trap may be pending (R466, U16); after the instruction it transferred to, the
single-step trap is. `stepping` is `step_pending` when the instruction began. -/
def endStep (i : Instr) (stepping : Bool) (s : State) : Result :=
  if i = .step then
    if s.ctl.pending = [] ∨ s.plat.stuck = true then .next s else .refused .trapAtStep
  else .next (takePending (if stepping then addPending .step (setStepPending false s) else s))

/-- `npc` of the group that `i` belongs to, past the literal cell that a `push.l` takes: the cell that may be pre-fetched
while `i` executes (20_memory.md R93.2). -/
def nextCell (i : Instr) (s : State) : Word := if i = .pushL then s.flow.npc + 4 else s.flow.npc

/-- Steps 5 to 7 of R24, after instruction `i` at byte `here` of a group with `npc`. -/
def complete (i : Instr) (here : BitVec 2) (npc : Word) (stepping : Bool) (s : State) : Result :=
  andThen (normalize npc s) fun s1 => endStep i stepping (releaseBlock i here (postedTick s1))

/-- Steps 2 to 7 of R24. -/
def runInstr (s : State) : Result :=
  match decode (group s) (byteIndex s.flow.pc) with
  | .error e => .refused (.undecodable e)
  | .ok i => andThen (exec i (beginInstr s)) (complete i (byteIndex s.flow.pc) (nextCell i s) s.ctl.stepPending)

/-- The first fetch where it is still to be made, then recognition and an interrupt or an instruction (R24, steps 1 to
7). A trap that is still pending comes first (R461 a, log 34). -/
def runStep (s : State) : Result :=
  let s1 := latchGroup s
  if s1.plat.stuck then .next s1
  else if s1.ctl.pending ≠ [] then .next (takePending s1)
  else
    let r := recognize s1
    match r.1 with
    | some i => .next (takeInterrupt i r.2)
    | none => runInstr r.2

/-- One step: a reset, from whatever state (70_reset_and_hazards.md R520), or the update of the inputs and one turn of
the cycle of R24. A CPU that waits in a transfer waits on while the platform's inputs may still bring a reset (log 8). -/
def cycle (s : State) : Result :=
  let r := takeInput s
  match r.1.reset with
  | some powerUp => .next (State.resetFrom powerUp r.2)
  | none =>
    let s0 := samplePins r.1.samples r.2
    if s.plat.stuck then (if s.plat.env = [] then .fault .busStuck else .next s0) else finish s0 (runStep s0)

/-! Placing an instruction where the next fetch takes it. -/

/-- The group `g` with the bytes of `v` laid over it from byte `p` on. -/
def overlay (p : BitVec 2) (v g : Word) : Word :=
  let sh := 8 * p.toNat
  (v >>> sh) ||| (g &&& ~~~(Word.allOnes >>> sh))

/-- The instruction `v` (its opcode in byte 0) placed at `pc`: in the latch, or in memory where nothing is latched. A
`push.l` takes its literal from the cell at `npc`, which then is 0 (log 40). -/
def placeInstr (v : Word) (s : State) : State :=
  let p := byteIndex s.flow.pc
  let s1 := if groupByte v 0 == 0x4F then s.setMem (Memory.writeCell s.mem s.flow.npc 0) else s
  match s1.flow.grp with
  | some g => s1.setFlow { s1.flow with grp := some (overlay p v g) }
  | none =>
    s1.setMem (Memory.writeCell s1.mem s1.flow.pc (overlay p v (Memory.readCell s1.mem s1.flow.pc)))

end Sys2Proof.Machine
end

