-- ==== Sys2Proof/Machine/Step.lean ====
section
/-! DEFINITION. The step of the machine (10_state.md R24). -/

namespace Sys2Proof.Machine

/-- One step of the machine. -/
def step (s : State) : Host.Outcome State Fault Refusal := cycle s

/-- `s` with the instruction whose bits are `w`, in the numbering of spec/opcode_table.json, stored where `step` fetches
its next instruction (log 40). -/
def State.withFetchWord (s : State) (nbits w : Nat) : State := placeInstr (tableGroup nbits w) s

end Sys2Proof.Machine
end

