-- ==== Sys2Proof/Safety.lean ====
section
/-! DEFINITION. What holds between two steps of the machine, and the terms in which the statements about it are made. -/

namespace Sys2Proof.Machine

/-! The invariant. -/

/-- Between instructions the operand stack has s0, s1 and at most 15 array cells on chip, and at least one once it is
allocated (10_state.md R26, R29, R35). -/
def State.osWithin (s : State) : Prop :=
  2 ≤ s.os.cells.length ∧ s.os.cells.length ≤ 17 ∧ (s.os.active = true → 3 ≤ s.os.cells.length)

/-- Between instructions the local-register stack has at most 15 cells on chip, and at least one once it is allocated
(10_state.md R29, R30, R35). -/
def State.lsWithin (s : State) : Prop :=
  s.ls.cells.length ≤ 15 ∧ (s.ls.active = true → 1 ≤ s.ls.cells.length)

/-- An address is cell-aligned (00_scope.md R12). -/
def cellAligned (a : Word) : Prop := a &&& 3 = 0

/-- The two stack pointers and `npc` stay cell-aligned (10_state.md R22, R27, R31). -/
def State.aligned (s : State) : Prop := cellAligned s.os.ptr ∧ cellAligned s.ls.ptr ∧ cellAligned s.flow.npc

/-- The invariant of the machine between steps. -/
structure State.Inv (s : State) : Prop where
  memory : Memory.wf s.mem = true
  operands : s.osWithin
  locals : s.lsWithin
  pointers : s.aligned

/-! The terms of the statements. -/

/-- Byte `b` is the opcode of `i` at every byte of every group (30_encoding.md R120, R130). -/
def Spells (b : Byte) (i : Instr) : Prop := ∀ g p, groupByte g p = b → decode g p = .ok i

/-- The CPU does not wait in a transfer, no write is posted and the platform has no answer in store: every transfer
completes without a fault (log 5). -/
def State.busQuiet (s : State) : Prop := s.plat.posted = none ∧ s.plat.bus = [] ∧ s.plat.stuck = false

/-- The state with other cells on the operand stack. -/
def State.stack (s : State) (cells : List Word) : State := s.setOs { s.os with cells := cells }

/-- The state with other cells on an operand stack that has grown, and so is allocated (10_state.md R29). -/
def State.grown (s : State) (cells : List Word) : State := s.setOs { s.os with cells := cells, active := true }

/-- The state with other cells on the local-register stack. -/
def State.locals (s : State) (cells : List Word) : State := s.setLs { s.ls with cells := cells }

/-- The state with other cells on a local-register stack that has grown, and so is allocated (10_state.md R29). -/
def State.localsGrown (s : State) (cells : List Word) : State :=
  s.setLs { s.ls with cells := cells, active := true }

/-- The state back at byte 0 of the group in the latch (42_control.md R247). -/
def State.loopedBack (s : State) : State :=
  s.setFlow { s.flow with pc := Memory.cellAddress s.flow.pc, bytelit := false }

/-- The state in which a trap or an interrupt has blocked interrupts (10_state.md R65). -/
def State.blocked (s : State) : State := s.setCtl { s.ctl with intBlock := true }

/-- The state with another carry. -/
def State.withCarry (s : State) (c : Bool) : State := s.setMode (putBit s.mode 15 c)

/-- The state with another GRS extension. -/
def State.withGrs (s : State) (e : Grs) : State := s.setMode (putGrs s.mode e)

/-- The state right after a group is entered on a quiet bus (10_state.md R23). -/
def State.enteredAt (s : State) (a : Word) : State :=
  s.setFlow
    { pc := a, npc := Memory.cellAddress a + 4, grp := some (Memory.readCell s.mem a), bytelit := false }

/-- No byte of the group `w` before the one that `a` selects is a `push.l` (42_control.md R256). -/
def LiteralFree (w a : Word) : Prop :=
  ∀ q : Nat, q < (a.extractLsb' 0 2).toNat → groupByte w (BitVec.ofNat 2 q) ≠ 0x4F

/-- The value of an offset in cells (30_encoding.md R122). -/
def offsetValue : Offset → Int
  | .w27 d => d.toInt
  | .w19 d => d.toInt
  | .w11 d => d.toInt
  | .w3 d => d.toInt

/-- The j-th bit that leaves a value shifted right while `c` enters at the top. -/
def bitLeaving {w : Nat} (c : Bool) (v : BitVec w) (j : Nat) : Bool := if j < w then v.getLsbD j else c

/-- The GRS extension after the first `n` bits of `out` have been shifted into it, bit by bit (10_state.md R42): guard
is the last one, round the one before, sticky remembers every one that went further. -/
def grsAfter (out : Nat → Bool) (n : Nat) (e : Grs) : Grs where
  guard := if n = 0 then e.guard else out (n - 1)
  round := if n = 0 then e.round else if n = 1 then e.guard else out (n - 2)
  sticky := e.sticky || (decide (1 ≤ n) && e.round) || (decide (2 ≤ n) && e.guard) ||
    (List.range (n - 2)).any out

/-- A value shifted right by `n` while `c` enters at the top. -/
def shiftedRight {w : Nat} (c : Bool) (v : BitVec w) (n : Nat) : BitVec w :=
  (v >>> n) ||| (if c then ~~~(BitVec.allOnes w >>> n) else 0)

/-- The register address of a bit-addressable register (10_state.md R50). -/
def baseOf : ByteReg → Nat
  | .ioin => 0x000
  | .ioip => 0x020
  | .ioius => 0x040
  | .ioout => 0x060
  | .ioie => 0x080

/-- The GRS extension as a number of eighths: guard is one half, round one quarter, sticky one eighth
(48_float.md R414). -/
def eighths (e : Grs) : Nat := 4 * e.guard.toNat + 2 * e.round.toNat + e.sticky.toNat

/-- Is a value with `e` eighths to its right rounded away from zero, by rounding mode and sign (48_float.md R414)? -/
def roundsUp (rmode : BitVec 2) (negative : Bool) (e : Nat) : Bool :=
  match rmode.toNat with
  | 0 => decide (4 ≤ e)
  | 1 => negative && decide (0 < e)
  | 2 => !negative && decide (0 < e)
  | _ => false

/-- The value `rnd` leaves: to the nearest even value where `e` is exactly one half (48_float.md R413, R414). -/
def rounded (rmode : BitVec 2) (negative : Bool) (e : Nat) (n : Word) : Word :=
  if roundsUp rmode negative e then (if rmode = 0 ∧ e = 4 then (n + 1) &&& 0xFFFFFFFE else n + 1) else n

/-- A memory fault at address `a`, of a write if `write`, has been reported between two states (60_exceptions.md R460,
R451): signal bit 26 is set, bit 31 says whether it was a write, the address is latched, and the trap is pending exactly
if bit 27 of the trap enables in force enables it. Nothing is said of memory, of `mfltdata` and of the platform. -/
structure FaultReported (write : Bool) (a : Word) (s t : State) : Prop where
  signalled : t.mode.getLsbD 26 = true
  kind : t.mode.getLsbD 31 = write
  otherBits : ∀ k : Nat, k ≠ 26 → k ≠ 31 → t.mode.getLsbD k = s.mode.getLsbD k
  address : t.res.mfltaddr = a
  latched : t.res.mfltLatched = true
  trapped : (trapEnables s).getLsbD 27 = true → Trap.memFault ∈ t.ctl.pending
  notTrapped : (trapEnables s).getLsbD 27 = false → t.ctl.pending = s.ctl.pending
  registers : t.flow = s.flow ∧ t.os = s.os ∧ t.ls = s.ls ∧ t.g = s.g ∧ t.x = s.x ∧ t.ct = s.ct

/-- The traps with a signal bit and an enable bit in `mode`: trap, signal bit, enable bit (60_exceptions.md R450). -/
def trapTable : List (Trap × Nat × Nat) :=
  [(.osOvf, 16, 17), (.osUnf, 18, 19), (.lsOvf, 21, 22), (.lsUnf, 23, 24), (.memFault, 26, 27),
   (.fpExp, 4, 3), (.fpUnf, 6, 5), (.fpOvf, 8, 7), (.fpNrm, 10, 9), (.fpRnd, 12, 11)]

/-- The page exception of a stack's spills (`true`) or refills (60_exceptions.md R455): the trap, its signal bit, its
enable bit, and the stack's boundary bit. -/
def pageException : Stk → Bool → Trap × Nat × Nat × Nat
  | .os, true => (.osOvf, 16, 17, 20)
  | .os, false => (.osUnf, 18, 19, 20)
  | .ls, true => (.lsOvf, 21, 22, 25)
  | .ls, false => (.lsUnf, 23, 24, 25)

/-- Instructions that always shrink the operand stack and do nothing before that could stop them. -/
def shrinksOperands : Instr → Bool
  | .add | .addc | .adda | .sub | .subb | .and | .or | .xor | .iand | .shift | .shiftd | .replb | .replw | .replexp
  | .stS0 | .stX | .stXInc | .stDecX | .stR0 | .stR0Inc | .stDecR0 | .sto | .stoI
  | .popG _ | .popR _ | .popCt | .popX | .popDrop | .popMode | .popLstack | .popLa | .lcache | .lframe
  | .bzOffset _ | .brIndirect | .callIndirect
  | .skipn | .skipnp | .skipz | .skipnn | .skipp | .skipnz => true
  | _ => false

/-- Instructions that pop the local-register stack first. -/
def shrinksLocals : Instr → Bool
  | .ret | .reti | .step | .pushLstack => true
  | _ => false

/-- The state in which a store computes its address: the forms on r0 first bring r0 into the cache (10_state.md R33). -/
def storeState (i : Instr) (s : State) : State :=
  match i with
  | .stR0 | .stR0Inc | .stDecR0 => withR0 s
  | _ => s

/-- The address an instruction stores a cell to, and the cell, when it is a store (45_load_store.md R340 to R346). -/
def storeTarget (i : Instr) (s : State) : Option (Word × Word) :=
  match i with
  | .stS0 => some (cell 0 s, cell 1 s)
  | .stX => some (s.x, cell 0 s)
  | .stXInc => some (s.x, cell 0 s)
  | .stDecX => some (s.x - 4, cell 0 s)
  | .stR0 => some (topL (withR0 s), cell 0 s)
  | .stR0Inc => some (topL (withR0 s), cell 0 s)
  | .stDecR0 => some (topL (withR0 s) - 4, cell 0 s)
  | _ => none

/-- Instructions that can write memory while they execute: the stores, and the two that spill. -/
def writesMemory : Instr → Bool
  | .stS0 | .stX | .stXInc | .stDecX | .stR0 | .stR0Inc | .stDecR0 | .lcache | .scache => true
  | _ => false

/-- The instructions that write `carry` (10_state.md R41). -/
def writesCarry : Instr → Bool
  | .add | .addPc | .addc | .sub | .subb | .cmp | .mxm | .and | .or | .xor | .iand | .notc | .shl1 | .shl8 | .shld1
  | .shift | .shiftd | .rnd | .testb | .testexp | .popMode => true
  | _ => false

/-- The instructions that write `interrupt_en` (10_state.md R40, R66). -/
def writesEnable : Instr → Bool
  | .ei | .di | .popMode => true
  | _ => false

/-- The instructions that write the on-chip resource registers (10_state.md R51, R52). -/
def writesResource : Instr → Bool
  | .sto | .stoI => true
  | _ => false

/-- The instructions that write the GRS extension (10_state.md R42, 48_float.md R405 to R412; `mulfs` only with a count
outside 1 to 32, U12). -/
def writesGrs : Instr → Bool
  | .shr1 | .shr8 | .shrd1 | .shift | .shiftd | .denorm | .normr | .norml | .replexp | .testexp | .mulfs | .popMode =>
    true
  | _ => false

/-- The instructions that can write the boundary bit of a stack while they execute: those that load its pointer, and
those that spill or refill it (60_exceptions.md R455). -/
def writesBoundary : Stk → Instr → Bool
  | .os, .popSa | .os, .scache => true
  | .ls, .popLa | .ls, .lcache | .ls, .pushR _ | .ls, .popR _ => true
  | .ls, .ldR0 | .ls, .ldR0Inc | .ls, .ldDecR0 | .ls, .stR0 | .ls, .stR0Inc | .ls, .stDecR0 => true
  | _, _ => false

/-- The exception-signal bits an instruction can set while it executes, without its Normalize: memory fault in all;
stack pages where it spills or refills; the floating-point ones of 48_float.md R415. -/
def maySignal (i : Instr) : List Nat :=
  26 :: match i with
    | .scache => [16, 18]
    | .lcache => [21, 23]
    | .pushR _ | .popR _ | .ldR0 | .ldR0Inc | .ldDecR0 | .stR0 | .stR0Inc | .stDecR0 => [23]
    | .testexp => [4]
    | .addexp | .subexp => [6, 8]
    | .norml => [6, 10]
    | .normr => [8, 10]
    | .denorm => [10]
    | .rnd => [12]
    | _ => []

/-- The positions of the exception-signal bits of `mode` (10_state.md R40). -/
def signalBits : List Nat := [4, 6, 8, 10, 12, 16, 18, 21, 23, 26]

end Sys2Proof.Machine
end

