-- ==== Sys2Proof/Certificates/Slice0/Obligations.lean ====
section
/-! DEFINITION. The statements for the provers. -/

open Sys2Proof Sys2Proof.Machine

/-! Encoding (30_encoding.md). -/

/-- Decoding what the encoder wrote gives the instruction back, an alias as its core instruction: every instruction that
fits at byte `p`, with every operand, over every group `g` that holds the other bytes. -/
def Obligations.DecodeEncode : Prop :=
  ∀ (i : Instr) (p : BitVec 2) (g : Word), i.fitsAt p = true → decode (encodeAt i p g) p = .ok i.core

/-- Encoding what the decoder read gives the group back, and what it read fits where it stood: no bit of a group is
dropped. -/
def Obligations.EncodeDecode : Prop :=
  ∀ (g : Word) (p : BitVec 2) (i : Instr), decode g p = .ok i →
    i.fitsAt p = true ∧ i.core = i ∧ encodeAt i p g = g

/-- Sanity: words written out from the opcode map (R130) and the formats of R121 to R128 decode as the map says. The last
clause is the model's choice (log 18): 0x90, which the map gives as `push.b`, has no literal byte at byte 3 (U11), and
the decoder rejects it there by name. -/
def Obligations.DecodeSpecWords : Prop :=
  decode 0xC0EAEAEA#32 0 = .ok .add ∧ decode 0xEAEE0000#32 1 = .ok .shift ∧
  decode 0x00000003#32 0 = .ok (.brOffset (.w27 3)) ∧ decode 0xEAEAEA07#32 3 = .ok (.brOffset (.w3 7)) ∧
  decode 0x2017FFFE#32 1 = .ok (.bzOffset (.w19 0x7FFFE)) ∧ decode 0xEAEA0FFF#32 2 = .ok (.callOffset (.w11 0x7FF)) ∧
  decode 0x2C000000#32 0 = .ok (.pushN 0xC) ∧ decode 0x90C0EA7B#32 0 = .ok (.pushB 0x7B) ∧
  decode 0x75EAEAEA#32 0 = .ok (.pushG 5) ∧ decode 0xA1EAEAEA#32 0 = .ok (.popR 1) ∧
  decode 0xEAEA60EA#32 2 = .ok .stS0 ∧ decode 0xBEEAEAEA#32 0 = .ok .lframe ∧ decode 0xD9EAEAEA#32 0 = .ok .testb ∧
  decode 0xC7EAEAEA#32 0 = .ok .norml ∧ decode 0xB1EAEAEA#32 0 = .ok .stoI ∧
  decode 0xEAEAEA8F#32 3 = .ok .unassigned8F ∧ decode 0xEAEAEA90#32 3 = .error .noLiteralByte

/-- The target of an OFFSET instruction is the address of its group plus four times its signed offset, modulo 2^32,
whatever the width of the offset; and the offset is the low `27 - 8p` bits of the group read as a signed number. -/
def Obligations.BranchTarget : Prop :=
  (∀ (o : Offset) (s : State),
    branchTarget o s = Memory.cellAddress s.flow.pc + BitVec.ofInt 32 (4 * offsetValue o)) ∧
  ∀ (g : Word) (p : BitVec 2),
    offsetValue (offsetAt g p) = (g.setWidth (27 - 8 * p.toNat)).toInt

/-! The machine between instructions (10_state.md). -/

/-- The state after reset: what R70 gives a value. That no flag of the hidden state is set, `bytelit` included, and that
no write is posted is the spec's decision D14 (log 28); `State.reset` is the reset that is no power-up (D10, log 3). -/
def Obligations.ResetValues : Prop :=
  State.reset.flow.pc = 0x80000008 ∧ State.reset.flow.npc = 0x8000000C ∧ State.reset.flow.bytelit = false ∧
  State.reset.mode = 0 ∧ State.reset.os.cells.length = 2 ∧ State.reset.os.active = false ∧
  State.reset.ls.cells = [] ∧ State.reset.ls.active = false ∧
  State.reset.res.ioin = 0xFF ∧ State.reset.res.ioip = 0 ∧ State.reset.res.ioius = 0 ∧ State.reset.res.ioout = 0xFF ∧
  State.reset.res.ioie = 0 ∧ State.reset.res.mspwe = false ∧
  State.reset.ctl = { intBlock := false, ieOld := none, enOld := none, stepPending := false, pending := [] } ∧
  State.reset.plat.posted = none

/-- A step whose input asserts *RESET ends, from every state, in the reset state (R520), also where the CPU waits in a
transfer that never ends (log 8). Bit 14 of `mode` is set exactly when the reset is a power-up (POWER_UP: D10, log 3);
that the hidden flags are clear and no write is pending is decision D14 (log 28); that a reset is one whole step, which
leaves memory and the coming inputs and bus answers as they are, is log 32; that it leaves the group latch empty, the
fetch that R23 and R520 give the reset being made at the beginning of the next step, is log 4. Each of these is the
model's choice or reading. -/
def Obligations.ResetStep : Prop :=
  ∀ (s : State) (i : StepInput) (rest : List StepInput) (powerUp : Bool),
    s.plat.env = i :: rest → i.reset = some powerUp →
    ∃ t, step s = .next t ∧ t.flow.pc = 0x80000008 ∧ t.mode = (if powerUp then 0x00004000 else 0) ∧
      t.os.active = false ∧ t.os.cells.length = 2 ∧ t.ls.active = false ∧ t.ls.cells = [] ∧
      t.res.ioin = 0xFF ∧ t.res.ioip = 0 ∧ t.res.ioius = 0 ∧ t.res.ioout = 0xFF ∧ t.res.ioie = 0 ∧
      t.res.mspwe = false ∧ t.ctl = { intBlock := false, ieOld := none, enOld := none, stepPending := false, pending := [] } ∧
      t.flow.npc = 0x8000000C ∧ t.flow.grp = none ∧ t.flow.bytelit = false ∧ t.plat.posted = none ∧
      t.plat.stuck = false ∧ t.mem = s.mem ∧ t.plat.env = rest ∧ t.plat.bus = s.plat.bus

/-- The invariant holds after reset. The spec gives neither stack pointer a value and memory no contents there: `sa` and
`la` are aligned because the model has them 0 (log 2), and memory is canonical because it lists nothing (log 1). -/
def Obligations.InvAtReset : Prop := State.reset.Inv

/-- Every step keeps the invariant: memory stays canonical, `2 + scnt` and `lcnt` stay within their bounds, and the
stack pointers and `npc` stay cell-aligned. -/
def Obligations.StepKeepsInv : Prop := ∀ s t : State, s.Inv → step s = .next t → t.Inv

/-- A step runs the decoded instruction. With no reset asserted, after the update of the inputs (state `v`) and, in the
first step after a reset, the fetch of the group at `pc` (state `u`; R520, log 4), and with no trap pending and no
interrupt recognized: where the byte at `pc` decodes to `i`, the step is `exec` of `i` with the end of the cycle
(Normalize, pending traps) behind it; where it is a `push.b` at byte 3, the step is refused (U11, log 18). A transfer
that never ends leaves the CPU where the step began, waiting, with what had been done to memory, the resource registers
and the bus (log 8). -/
def Obligations.StepRunsDecoded : Prop :=
  ∀ s v u : State, s.plat.stuck = false → (takeInput s).1.reset = none →
    v = samplePins (takeInput s).1.samples (takeInput s).2 →
    u = (if v.flow.grp = none then enterGroup v.flow.pc v else v) →
    (u.plat.stuck = true → step s = .next { v with mem := u.mem, res := u.res, plat := u.plat, free := u.free }) ∧
    (u.plat.stuck = false → u.ctl.pending = [] → (recognize u).1 = none →
      (∀ i : Instr, decode (group u) (byteIndex u.flow.pc) = .ok i →
        step s = andThen (andThen (exec i (beginInstr (recognize u).2))
            (complete i (byteIndex u.flow.pc) (if i = .pushL then u.flow.npc + 4 else u.flow.npc) u.ctl.stepPending))
          fun t => .next (if t.plat.stuck = true then
            { v with mem := t.mem, res := t.res, plat := t.plat, free := t.free } else t)) ∧
      (groupByte (group u) 3 = 0x90 → byteIndex u.flow.pc = 3 → step s = .refused (.undecodable .noLiteralByte)))

/-- Sequencing. `EnterGroup` (R23) on a quiet bus sets `pc`, `npc`, `grp` and `bytelit` as the rule says, and nothing else;
that `npc` is the cell after the group also where `a` is a byte inside it is the spec's decision D4 (log 28).
The sequential advance (R24, step 4): from byte 3, or from byte 2 after a `push.b` (D5), `EnterGroup(npc)`; else
`pc + 1`. Whatever the bus answers, neither changes a stack, a register, a byte of memory, an input or output register or
a hidden flag, and of `mode` only the two bits of a memory fault. -/
def Obligations.Sequencing : Prop :=
  (∀ (s : State) (a : Word), s.busQuiet →
    enterGroup a s = s.setFlow
      { pc := a, npc := BitVec.ofNat 32 (4 * (a.toNat / 4) + 4), grp := some (Memory.readCell s.mem a),
        bytelit := false }) ∧
  (∀ s : State,
    advance s = if s.flow.pc.toNat % 4 = 3 ∨ (s.flow.pc.toNat % 4 = 2 ∧ s.flow.bytelit = true) then
        enterGroup s.flow.npc s
      else s.setFlow { s.flow with pc := s.flow.pc + 1 }) ∧
  ∀ (s t : State) (a : Word), t = enterGroup a s ∨ t = advance s →
    t.os = s.os ∧ t.ls = s.ls ∧ t.g = s.g ∧ t.x = s.x ∧ t.ct = s.ct ∧ t.mem = s.mem ∧
    t.res.ioin = s.res.ioin ∧ t.res.ioip = s.res.ioip ∧ t.res.ioius = s.res.ioius ∧ t.res.ioout = s.res.ioout ∧
    t.res.ioie = s.res.ioie ∧ t.res.mspwe = s.res.mspwe ∧ t.ctl.intBlock = s.ctl.intBlock ∧
    t.ctl.ieOld = s.ctl.ieOld ∧ t.ctl.enOld = s.ctl.enOld ∧ t.ctl.stepPending = s.ctl.stepPending ∧
    ∀ k : Nat, k ≠ 26 → k ≠ 31 → t.mode.getLsbD k = s.mode.getLsbD k

/-! Arithmetic, compare and logical instructions (40_alu_arith.md). Every equation gives the whole next state: what it
does not name is as before, and `advance` changes what `Obligations.Advance` says. -/

/-- `add`, `addc`, `adda` and `add pc`: the sum modulo 2^32; carry is the carry out of bit 31, and `adda` leaves it. -/
def Obligations.Addition : Prop :=
  Spells 0xC0 .add ∧ Spells 0xC2 .addc ∧ Spells 0xE8 .adda ∧ Spells 0xBB .addPc ∧
  (∀ (s : State) (n1 n2 : Word) (rest : List Word), s.os.cells = n2 :: n1 :: rest → s.os.active = true →
    exec .add s = .next (advance ((s.stack (BitVec.ofNat 32 (n1.toNat + n2.toNat) :: rest)).withCarry
      (decide (2 ^ 32 ≤ n1.toNat + n2.toNat)))) ∧
    exec .addc s = .next (advance
      ((s.stack (BitVec.ofNat 32 (n1.toNat + n2.toNat + s.carry.toNat) :: rest)).withCarry
        (decide (2 ^ 32 ≤ n1.toNat + n2.toNat + s.carry.toNat)))) ∧
    exec .adda s = .next (advance (s.stack (BitVec.ofNat 32 (n1.toNat + n2.toNat) :: rest)))) ∧
  ∀ (s : State) (n1 : Word) (rest : List Word), s.os.cells = n1 :: rest →
    exec .addPc s = .next (advance
      ((s.stack (BitVec.ofNat 32 (n1.toNat + s.flow.pc.toNat) :: rest)).withCarry
        (decide (2 ^ 32 ≤ n1.toNat + s.flow.pc.toNat))))

/-- `sub` and `subb`: the difference n1 - n2 (less the borrow) modulo 2^32; carry is the borrow. -/
def Obligations.Subtraction : Prop :=
  Spells 0xC8 .sub ∧ Spells 0xCA .subb ∧
  ∀ (s : State) (n1 n2 : Word) (rest : List Word), s.os.cells = n2 :: n1 :: rest → s.os.active = true →
    exec .sub s = .next (advance
      ((s.stack (BitVec.ofInt 32 ((n1.toNat : Int) - n2.toNat) :: rest)).withCarry
        (decide (n1.toNat < n2.toNat)))) ∧
    exec .subb s = .next (advance
      ((s.stack (BitVec.ofInt 32 ((n1.toNat : Int) - n2.toNat - s.carry.toNat) :: rest)).withCarry
        (decide (n1.toNat < n2.toNat + s.carry.toNat))))

/-- `cmp` and `mxm`: both compare as signed values; `mxm` leaves the larger one in s0. -/
def Obligations.Comparison : Prop :=
  Spells 0xCB .cmp ∧ Spells 0xDF .mxm ∧
  ∀ (s : State) (n1 n2 : Word) (rest : List Word), s.os.cells = n2 :: n1 :: rest →
    exec .cmp s = .next (advance (s.withCarry (decide (n1.toInt < n2.toInt)))) ∧
    exec .mxm s = .next (advance
      ((s.stack (if n1.toInt < n2.toInt then n2 :: n1 :: rest else n1 :: n2 :: rest)).withCarry
        (decide (n1.toInt < n2.toInt))))

/-- `neg`, `inc`, `dec`, `eqz` on s0, and `dec ct`: no flag changes. -/
def Obligations.UnaryArithmetic : Prop :=
  Spells 0xC9 .neg ∧ Spells 0xCE .inc1 ∧ Spells 0xCC .inc4 ∧ Spells 0xCF .dec1 ∧ Spells 0xCD .dec4 ∧
  Spells 0xC1 .decCt ∧ Spells 0xE5 .eqz ∧
  (∀ (s : State) (n1 : Word) (rest : List Word), s.os.cells = n1 :: rest →
    exec .neg s = .next (advance (s.stack (BitVec.ofInt 32 (-(n1.toNat : Int)) :: rest))) ∧
    exec .inc1 s = .next (advance (s.stack (BitVec.ofNat 32 (n1.toNat + 1) :: rest))) ∧
    exec .inc4 s = .next (advance (s.stack (BitVec.ofNat 32 (n1.toNat + 4) :: rest))) ∧
    exec .dec1 s = .next (advance (s.stack (BitVec.ofInt 32 ((n1.toNat : Int) - 1) :: rest))) ∧
    exec .dec4 s = .next (advance (s.stack (BitVec.ofInt 32 ((n1.toNat : Int) - 4) :: rest))) ∧
    exec .eqz s = .next (advance (s.stack ((if n1 = 0 then 0xFFFFFFFF else 0) :: rest)))) ∧
  ∀ s : State, exec .decCt s = .next (advance (s.setCt (BitVec.ofInt 32 ((s.ct.toNat : Int) - 1))))

/-- `and`, `or`, `xor`, `iand` clear carry; `notc` inverts it; `nop` does nothing. -/
def Obligations.Logic : Prop :=
  Spells 0xE1 .and ∧ Spells 0xE0 .or ∧ Spells 0xC3 .xor ∧ Spells 0xE9 .iand ∧ Spells 0xDD .notc ∧ Spells 0xEA .nop ∧
  (∀ (s : State) (n1 n2 : Word) (rest : List Word), s.os.cells = n2 :: n1 :: rest → s.os.active = true →
    exec .and s = .next (advance ((s.stack ((n1 &&& n2) :: rest)).withCarry false)) ∧
    exec .or s = .next (advance ((s.stack ((n1 ||| n2) :: rest)).withCarry false)) ∧
    exec .xor s = .next (advance ((s.stack ((n1 ^^^ n2) :: rest)).withCarry false)) ∧
    exec .iand s = .next (advance ((s.stack ((n1 &&& ~~~n2) :: rest)).withCarry false))) ∧
  ∀ s : State, exec .notc s = .next (advance (s.withCarry (!s.carry))) ∧ exec .nop s = .next (advance s)

/-! Shift, multiply and divide instructions (41_alu_shift_muldiv.md). -/

/-- The shifts by a fixed count. A left shift puts the last bit that leaves into carry; a right shift copies carry in at
the top and shifts what leaves into the GRS extension, whose step is R42's statement of it, which the spec marks as
derived, as it does the step by eight (R205). -/
def Obligations.FixedShifts : Prop :=
  Spells 0xE2 .shl1 ∧ Spells 0xEC .shl8 ∧ Spells 0xE6 .shld1 ∧ Spells 0xE3 .shr1 ∧ Spells 0xED .shr8 ∧
  Spells 0xE7 .shrd1 ∧
  (∀ (s : State) (n1 : Word) (rest : List Word), s.os.cells = n1 :: rest →
    exec .shl1 s = .next (advance ((s.stack ((n1 <<< 1) :: rest)).withCarry (n1.getLsbD 31))) ∧
    exec .shl8 s = .next (advance ((s.stack ((n1 <<< 8) :: rest)).withCarry (n1.getLsbD 24))) ∧
    exec .shr1 s = .next (advance
      ((s.stack (((n1 >>> 1) ||| (if s.carry then 0x80000000 else 0)) :: rest)).withGrs
        ⟨n1.getLsbD 0, (grsOf s.mode).guard, (grsOf s.mode).sticky || (grsOf s.mode).round⟩)) ∧
    exec .shr8 s = .next (advance
      ((s.stack (((n1 >>> 8) ||| (if s.carry then 0xFF000000 else 0)) :: rest)).withGrs
        ⟨n1.getLsbD 7, n1.getLsbD 6,
          (grsOf s.mode).sticky || (grsOf s.mode).round || (grsOf s.mode).guard || decide (n1 &&& 0x3F ≠ 0)⟩))) ∧
  ∀ (s : State) (hi lo : Word) (rest : List Word), s.os.cells = hi :: lo :: rest →
    exec .shld1 s = .next (advance
      ((s.stack (((hi <<< 1) ||| (lo >>> 31)) :: (lo <<< 1) :: rest)).withCarry (hi.getLsbD 31))) ∧
    exec .shrd1 s = .next (advance
      ((s.stack (((hi >>> 1) ||| (if s.carry then 0x80000000 else 0)) :: ((hi <<< 31) ||| (lo >>> 1)) :: rest)).withGrs
        ⟨lo.getLsbD 0, (grsOf s.mode).guard, (grsOf s.mode).sticky || (grsOf s.mode).round⟩))

/-- `shift` and `shiftd`, in closed form: the magnitude is the count modulo 64 and bit 31 of the count the direction. A
left shift puts the last bit that leaves into carry and leaves carry alone for a zero count; a right shift fills with
carry and shifts every bit that leaves through the GRS extension, whose step is R42's statement of it, which the spec
marks as derived. -/
def Obligations.ShiftByCount : Prop :=
  Spells 0xEE .shift ∧ Spells 0xEF .shiftd ∧
  (∀ (s : State) (c v : Word) (rest : List Word), s.os.cells = c :: v :: rest → s.os.active = true →
    (c.msb = false → exec .shift s = .next (advance
      ((s.stack ((v <<< (c.toNat % 64)) :: rest)).withCarry
        (if c.toNat % 64 = 0 then s.carry
         else if c.toNat % 64 ≤ 32 then v.getLsbD (32 - c.toNat % 64) else false)))) ∧
    (c.msb = true → exec .shift s = .next (advance
      ((s.stack (shiftedRight s.carry v (c.toNat % 64) :: rest)).withGrs
        (grsAfter (bitLeaving s.carry v) (c.toNat % 64) (grsOf s.mode)))))) ∧
  ∀ (s : State) (c hi lo : Word) (rest : List Word), s.os.cells = c :: hi :: lo :: rest → s.os.active = true →
    (c.msb = false → exec .shiftd s = .next (advance
      ((s.stack (((hi ++ lo) <<< (c.toNat % 64)).extractLsb' 32 32 ::
          ((hi ++ lo) <<< (c.toNat % 64)).extractLsb' 0 32 :: rest)).withCarry
        (if c.toNat % 64 = 0 then s.carry else (hi ++ lo).getLsbD (64 - c.toNat % 64))))) ∧
    (c.msb = true → exec .shiftd s = .next (advance
      ((s.stack ((shiftedRight s.carry (hi ++ lo) (c.toNat % 64)).extractLsb' 32 32 ::
          (shiftedRight s.carry (hi ++ lo) (c.toNat % 64)).extractLsb' 0 32 :: rest)).withGrs
        (grsAfter (bitLeaving s.carry (hi ++ lo)) (c.toNat % 64) (grsOf s.mode)))))

/-- `mulu`, `muls` and `mulfs`: `g0` times n1 plus n2, as exact numbers. For `mulfs` the multiplier `M` is the low `k`
bits of n1 in reverse order, `k` the count in `ct`, which ends at zero. -/
def Obligations.Multiply : Prop :=
  Spells 0xD7 .mulu ∧ Spells 0xD5 .muls ∧ Spells 0xD6 .mulfs ∧
  ∀ (s : State) (n1 n2 : Word) (rest : List Word), s.os.cells = n2 :: n1 :: rest → s.os.active = true →
    exec .mulu s = .next (advance (s.stack
      (BitVec.ofNat 32 ((n1.toNat * s.g[0].toNat + n2.toNat) / 2 ^ 32) ::
        BitVec.ofNat 32 (n1.toNat * s.g[0].toNat + n2.toNat) :: rest))) ∧
    exec .muls s = .next (advance (s.stack
      (BitVec.ofInt 32 ((n1.toInt * s.g[0].toInt + n2.toInt) / 2 ^ 32) ::
        BitVec.ofInt 32 (n1.toInt * s.g[0].toInt + n2.toInt) :: rest))) ∧
    ∀ (k : Nat) (M : BitVec k), 1 ≤ k → k ≤ 32 → s.ct = BitVec.ofNat 32 k →
      (∀ j, j < k → M.getLsbD j = n1.getLsbD (k - 1 - j)) →
      exec .mulfs s = .next (advance ((s.stack
        (BitVec.ofInt 32 (s.g[0].toInt * M.toInt + n2.toNat * 2 ^ k) ::
          BitVec.ofNat 32 ((n2.toNat * 2 ^ 32 + n1.toNat) / 2 ^ k) :: rest)).setCt 0))

/-- `divu`: quotient in s1 and remainder in s0; a zero divisor leaves the stack as it is; a quotient that does not fit
leaves two values of which the spec says nothing, and changes nothing else. -/
def Obligations.Divide : Prop :=
  Spells 0xDE .divu ∧
  ∀ (s : State) (n1 n2 : Word) (rest : List Word), s.os.cells = n2 :: n1 :: rest → s.os.active = true →
    (s.g[0] = 0 → exec .divu s = .next (advance s)) ∧
    (n2.toNat < s.g[0].toNat → exec .divu s = .next (advance (s.stack
      (BitVec.ofNat 32 ((n2.toNat * 2 ^ 32 + n1.toNat) % s.g[0].toNat) ::
        BitVec.ofNat 32 ((n2.toNat * 2 ^ 32 + n1.toNat) / s.g[0].toNat) :: rest)))) ∧
    (s.g[0] ≠ 0 → s.g[0].toNat ≤ n2.toNat → ∃ (a b : Word) (f : Nat),
      exec .divu s = .next (advance ((s.stack (a :: b :: rest)).setFree f)))

/-! Branches, calls, returns, skips and micro-loops (42_control.md). -/

/-- The OFFSET instructions. `bz` pops its cell in both cases; not taken, `bz` and `dbr` continue at the next group;
`call` pushes `npc`. Each is decoded from its eight opcodes with the offset that the group holds. -/
def Obligations.Branches : Prop :=
  (∀ (g : Word) (p : BitVec 2),
    ((groupByte g p).toNat / 8 = 0 → decode g p = .ok (.brOffset (offsetAt g p))) ∧
    ((groupByte g p).toNat / 8 = 1 → decode g p = .ok (.callOffset (offsetAt g p))) ∧
    ((groupByte g p).toNat / 8 = 2 → decode g p = .ok (.bzOffset (offsetAt g p))) ∧
    ((groupByte g p).toNat / 8 = 3 → decode g p = .ok (.dbrOffset (offsetAt g p)))) ∧
  (∀ (s : State) (o : Offset),
    exec (.brOffset o) s = .next (enterGroup (branchTarget o s) s) ∧
    exec (.dbrOffset o) s = .next (enterGroup (if s.ct - 1 ≠ 0 then branchTarget o s else s.flow.npc)
      (s.setCt (s.ct - 1))) ∧
    exec (.callOffset o) s =
      .next (enterGroup (branchTarget o s) (s.localsGrown (s.flow.npc :: s.ls.cells)))) ∧
  ∀ (s : State) (o : Offset) (n : Word) (rest : List Word), s.os.cells = n :: rest → s.os.active = true →
    exec (.bzOffset o) s =
      .next (enterGroup (if n = 0 then branchTarget o s else s.flow.npc) (s.stack rest))

/-- The register-indirect transfers, wherever they do not enter a group behind a `push.l` (R256) or their own fetch traps
or never ends (the model's conditions, log 16): `br []`, `call []` with the address of the next instruction as return address, `ret`, and `reti`, which also
clears the lowest set bit of `ioius`. -/
def Obligations.IndirectTransfers : Prop :=
  Spells 0x4B .brIndirect ∧ Spells 0x4E .callIndirect ∧ Spells 0x6E .ret ∧ Spells 0x6F .reti ∧
  (∀ (s : State) (a : Word) (rest : List Word), s.os.cells = a :: rest → s.os.active = true →
    (∀ t, t = enterGroup a (s.stack rest) → LiteralFree (group t) a ∨ fetchTraps s = true ∨ t.plat.stuck = true →
      exec .brIndirect s = .next t) ∧
    (∀ t, t = enterGroup a ((s.stack rest).localsGrown
          ((if s.flow.pc.toNat % 4 = 3 ∨ (s.flow.pc.toNat % 4 = 2 ∧ s.flow.bytelit = true) then s.flow.npc
            else s.flow.pc + 1) :: s.ls.cells)) →
      LiteralFree (group t) a ∨ fetchTraps s = true ∨ t.plat.stuck = true → exec .callIndirect s = .next t)) ∧
  ∀ (s : State) (a : Word) (rest : List Word), s.ls.cells = a :: rest → s.ls.active = true →
    (∀ t, t = enterGroup a (s.locals rest) → LiteralFree (group t) a ∨ fetchTraps s = true ∨ t.plat.stuck = true →
      exec .ret s = .next t) ∧
    ∀ t, t = enterGroup a ((s.locals rest).setRes { s.res with ioius := s.res.ioius &&& (s.res.ioius - 1) }) →
      LiteralFree (group t) a ∨ fetchTraps s = true ∨ t.plat.stuck = true → exec .reti s = .next t

/-- The skips: true, on to the next group; false, the sequential advance. Those that test a cell pop it in both cases;
zero is not negative. -/
def Obligations.Skips : Prop :=
  Spells 0x30 .skip ∧ Spells 0x31 .skipc ∧ Spells 0x32 .skipn ∧ Spells 0x33 .skipz ∧ Spells 0x35 .skipnc ∧
  Spells 0x36 .skipnn ∧ Spells 0x37 .skipnz ∧
  (∀ s : State,
    exec .skip s = .next (enterGroup s.flow.npc s) ∧
    exec .skipc s = .next (if s.carry = true then enterGroup s.flow.npc s else advance s) ∧
    exec .skipnc s = .next (if s.carry = false then enterGroup s.flow.npc s else advance s)) ∧
  ∀ (s : State) (n : Word) (rest : List Word), s.os.cells = n :: rest → s.os.active = true →
    (∀ i, i = .skipn ∨ i = .skipnp →
      exec i s = .next (if n.toInt < 0 then enterGroup s.flow.npc (s.stack rest) else advance (s.stack rest))) ∧
    (∀ i, i = .skipnn ∨ i = .skipp →
      exec i s = .next (if 0 ≤ n.toInt then enterGroup s.flow.npc (s.stack rest) else advance (s.stack rest))) ∧
    exec .skipz s = .next (if n = 0 then enterGroup s.flow.npc (s.stack rest) else advance (s.stack rest)) ∧
    exec .skipnz s = .next (if n ≠ 0 then enterGroup s.flow.npc (s.stack rest) else advance (s.stack rest))

/-- The micro-loops: `ct` goes down by one in every case; where it is not zero and the condition holds, the group in the
latch is executed again from byte 0, without a fetch; otherwise the sequential advance. -/
def Obligations.MicroLoops : Prop :=
  Spells 0x38 .mloop ∧ Spells 0x39 .mloopc ∧ Spells 0x3A .mloopn ∧ Spells 0x3B .mloopz ∧ Spells 0x3D .mloopnc ∧
  Spells 0x3E .mloopnn ∧ Spells 0x3F .mloopnz ∧
  ∀ s t : State, t = s.setCt (s.ct - 1) →
    exec .mloop s = .next (if t.ct ≠ 0 then t.loopedBack else advance t) ∧
    exec .mloopc s = .next (if t.ct ≠ 0 ∧ s.carry = true then t.loopedBack else advance t) ∧
    exec .mloopnc s = .next (if t.ct ≠ 0 ∧ s.carry = false then t.loopedBack else advance t) ∧
    ∀ (n : Word) (rest : List Word), s.os.cells = n :: rest →
      (∀ i, i = .mloopn ∨ i = .mloopnp →
        exec i s = .next (if t.ct ≠ 0 ∧ n.toInt < 0 then t.loopedBack else advance t)) ∧
      (∀ i, i = .mloopnn ∨ i = .mloopp →
        exec i s = .next (if t.ct ≠ 0 ∧ 0 ≤ n.toInt then t.loopedBack else advance t)) ∧
      exec .mloopz s = .next (if t.ct ≠ 0 ∧ n = 0 then t.loopedBack else advance t) ∧
      exec .mloopnz s = .next (if t.ct ≠ 0 ∧ n ≠ 0 then t.loopedBack else advance t)

/-! Literals and data movement (43_literals.md, 44_data_movement.md). -/

/-- `push.n` (-7 to 8), `push.b` (zero-extended byte 3 of the group, which is then no opcode: D5), and `push.l`, which
reads the cell at `npc` and moves `npc` past it; a `push.l` that a micro-loop repeats is another statement's. -/
def Obligations.Literals : Prop :=
  (∀ k : BitVec 4, Spells (0x2#4 ++ k) (.pushN k)) ∧
  (∀ (g : Word) (p : BitVec 2), groupByte g p = 0x90 → p ≠ 3 → decode g p = .ok (.pushB (groupByte g 3))) ∧
  Spells 0x4F .pushL ∧
  ∀ s : State,
    (∀ k : BitVec 4, exec (.pushN k) s = .next (advance (s.grown
      (BitVec.ofInt 32 (if k.toNat ≤ 8 then k.toNat else (k.toNat : Int) - 16) :: s.os.cells)))) ∧
    (∀ n : Byte, exec (.pushB n) s = .next (advance
      ((s.grown (BitVec.ofNat 32 n.toNat :: s.os.cells)).setFlow { s.flow with bytelit := true }))) ∧
    ∀ (v : Word) (t : State), literalTaken s = false → busRead s.flow.npc s = (v, t) →
      exec .pushL s = .next (advance
        ((t.grown (v :: s.os.cells)).setFlow { s.flow with npc := s.flow.npc + 4 }))

/-- The instructions that push a register, or a copy of a cell. -/
def Obligations.PushRegisters : Prop :=
  (∀ i : Fin 16, Spells (0x7#4 ++ BitVec.ofNat 4 i.val) (.pushG i)) ∧ Spells 0x94 .pushCt ∧ Spells 0x98 .pushX ∧
  Spells 0x91 .pushMode ∧ Spells 0x9C .pushSa ∧ Spells 0x9D .pushLa ∧ Spells 0x9B .ldepth ∧ Spells 0x9F .sdepth ∧
  Spells 0x92 .pushDup ∧ Spells 0x93 .pushS1 ∧ Spells 0x9E .pushS2 ∧
  (∀ s : State,
    (∀ i : Fin 16, exec (.pushG i) s = .next (advance (s.grown (s.g[i] :: s.os.cells)))) ∧
    exec .pushCt s = .next (advance (s.grown (s.ct :: s.os.cells))) ∧
    exec .pushX s = .next (advance (s.grown (s.x :: s.os.cells))) ∧
    exec .pushMode s = .next (advance (s.grown (s.mode :: s.os.cells))) ∧
    exec .pushSa s = .next (advance (s.grown (s.os.ptr :: s.os.cells))) ∧
    exec .pushLa s = .next (advance (s.grown (s.ls.ptr :: s.os.cells))) ∧
    exec .ldepth s = .next (advance (s.grown (BitVec.ofNat 32 (s.ls.cells.length - 1) :: s.os.cells))) ∧
    exec .sdepth s = .next (advance (s.grown (BitVec.ofNat 32 (s.os.cells.length - 2 - 1) :: s.os.cells)))) ∧
  (∀ (s : State) (n : Word) (rest : List Word), s.os.cells = n :: rest →
    ∀ i, i = .pushDup ∨ i = .pushS0 → exec i s = .next (advance (s.grown (n :: n :: rest)))) ∧
  (∀ (s : State) (n1 n2 : Word) (rest : List Word), s.os.cells = n2 :: n1 :: rest →
    exec .pushS1 s = .next (advance (s.grown (n1 :: n2 :: n1 :: rest)))) ∧
  ∀ (s : State) (n1 n2 n3 : Word) (rest : List Word), s.os.cells = n3 :: n2 :: n1 :: rest →
    exec .pushS2 s = .next (advance (s.grown (n1 :: n3 :: n2 :: n1 :: rest)))

/-- The instructions that pop into a register, `pop`, `xcg` and `rev`. `push s2` and `rev` with an s2 not allocated yet
are another statement's. -/
def Obligations.PopRegisters : Prop :=
  (∀ i : Fin 16, Spells (0x5#4 ++ BitVec.ofNat 4 i.val) (.popG i)) ∧ Spells 0xB4 .popCt ∧ Spells 0xB8 .popX ∧
  Spells 0xB3 .popDrop ∧ Spells 0xB2 .xcg ∧ Spells 0xE4 .rev ∧
  (∀ (s : State) (n : Word) (rest : List Word), s.os.cells = n :: rest → s.os.active = true →
    (∀ i : Fin 16, exec (.popG i) s = .next (advance ((s.stack rest).setG (s.g.set i n)))) ∧
    exec .popCt s = .next (advance ((s.stack rest).setCt n)) ∧
    exec .popX s = .next (advance ((s.stack rest).setX n)) ∧
    exec .popDrop s = .next (advance (s.stack rest))) ∧
  (∀ (s : State) (n1 n2 : Word) (rest : List Word), s.os.cells = n2 :: n1 :: rest →
    exec .xcg s = .next (advance (s.stack (n1 :: n2 :: rest)))) ∧
  ∀ (s : State) (n1 n2 n3 : Word) (rest : List Word), s.os.cells = n3 :: n2 :: n1 :: rest →
    exec .rev s = .next (advance (s.stack (n1 :: n3 :: n2 :: rest)))

/-- `pop mode` bit by bit: bits 25 and 20 are kept, bit 14 is cleared, every other bit is written; `ei` and `di` write
bit 13 only. Each remembers the old `interrupt_en` for the next recognition (R66; D13, log 14), and none raises a trap
(D7). `pop mode` also remembers the old `mode`, whose trap enables apply until the next instruction (R300;
`Obligations.Signalling`). -/
def Obligations.ModeAndEnable : Prop :=
  Spells 0xB9 .popMode ∧ Spells 0xB6 .ei ∧ Spells 0xB7 .di ∧
  (∀ (s : State) (n : Word) (rest : List Word), s.os.cells = n :: rest → s.os.active = true →
    ∃ m : Word,
      (∀ k : Nat, k < 32 → m.getLsbD k =
        (if k = 14 then false else if k = 20 ∨ k = 25 then s.mode.getLsbD k else n.getLsbD k)) ∧
      exec .popMode s = .next (advance
        (((s.stack rest).setMode m).setCtl
          { s.ctl with ieOld := some (s.mode.getLsbD 13), enOld := some s.mode }))) ∧
  ∀ s : State,
    exec .ei s = .next (advance
      ((s.setMode (s.mode ||| 0x00002000)).setCtl { s.ctl with ieOld := some (s.mode.getLsbD 13) })) ∧
    exec .di s = .next (advance
      ((s.setMode (s.mode &&& 0xFFFFDFFF)).setCtl { s.ctl with ieOld := some (s.mode.getLsbD 13) }))

/-- `push ri` and `pop ri`, i = 0 to 14: the local-register stack is refilled until it holds r<i>, then the cell is read
or replaced where it stands (`Obligations.Refills` says what the refills do). A register already in the cache causes
none. `push lstack` and `pop lstack` move one cell between the two stacks. -/
def Obligations.LocalRegisters : Prop :=
  (∀ i : Fin 16, i.val < 15 → Spells (0x8#4 ++ BitVec.ofNat 4 i.val) (.pushR i) ∧
    Spells (0xA#4 ++ BitVec.ofNat 4 i.val) (.popR i)) ∧ Spells 0x9A .pushLstack ∧ Spells 0xBA .popLstack ∧
  (∀ (s : State) (i : Fin 16), i.val < s.ls.cells.length → fill .ls (i.val + 1) s = s) ∧
  (∀ (s t : State) (i : Fin 16), t = fill .ls (i.val + 1) s →
    i.val < t.ls.cells.length ∧
    exec (.pushR i) s = .next (advance (t.grown (t.ls.cells.getD i.val 0 :: s.os.cells)))) ∧
  (∀ (s t : State) (i : Fin 16) (n : Word) (rest : List Word), s.os.cells = n :: rest → s.os.active = true →
    t = fill .ls (i.val + 1) s →
    exec (.popR i) s = .next (advance ((t.stack rest).locals (t.ls.cells.set i.val n)))) ∧
  (∀ (s : State) (n : Word) (rest : List Word), s.ls.cells = n :: rest → s.ls.active = true →
    exec .pushLstack s = .next (advance ((s.grown (n :: s.os.cells)).locals rest))) ∧
  ∀ (s : State) (n : Word) (rest : List Word), s.os.cells = n :: rest → s.os.active = true →
    exec .popLstack s = .next (advance ((s.stack rest).localsGrown (n :: s.ls.cells)))

/-! Loads and stores (45_load_store.md). -/

/-- The cell loads, for every answer of the bus, and `ld.b`, for every answer that is no fault (`Obligations.BusTransfers`
says what `busRead` answers; a faulted `ld.b` is in `Obligations.OpenValues`, U8). `r0` is the top of the local-register stack; x and r0 keep all 32 bits and move by exactly four. -/
def Obligations.Loads : Prop :=
  Spells 0x40 .ldS0 ∧ Spells 0x41 .ldX ∧ Spells 0x49 .ldXInc ∧ Spells 0x4A .ldDecX ∧ Spells 0x42 .ldR0 ∧
  Spells 0x46 .ldR0Inc ∧ Spells 0x44 .ldDecR0 ∧ Spells 0x48 .ldB ∧
  (∀ (s t : State) (a v : Word) (rest : List Word), s.os.cells = a :: rest → busRead a s = (v, t) →
    exec .ldS0 s = .next (advance (t.stack (v :: rest))) ∧
    (readFaults s = false → exec .ldB s = .next (advance
      (t.stack (BitVec.ofNat 32 (v.toNat / 2 ^ (24 - 8 * (a.toNat % 4)) % 256) :: rest))))) ∧
  (∀ (s t : State) (v : Word),
    (busRead s.x s = (v, t) → exec .ldX s = .next (advance (t.grown (v :: s.os.cells)))) ∧
    (busRead s.x s = (v, t) →
      exec .ldXInc s = .next (advance ((t.grown (v :: s.os.cells)).setX (s.x + 4)))) ∧
    (busRead (s.x - 4) s = (v, t) →
      exec .ldDecX s = .next (advance ((t.grown (v :: s.os.cells)).setX (s.x - 4))))) ∧
  ∀ (s t : State) (r0 v : Word) (rest : List Word), s.ls.cells = r0 :: rest →
    (busRead r0 s = (v, t) → exec .ldR0 s = .next (advance (t.grown (v :: s.os.cells)))) ∧
    (busRead r0 s = (v, t) →
      exec .ldR0Inc s = .next (advance ((t.grown (v :: s.os.cells)).locals ((r0 + 4) :: rest)))) ∧
    (busRead (r0 - 4) s = (v, t) →
      exec .ldDecR0 s = .next (advance ((t.grown (v :: s.os.cells)).locals ((r0 - 4) :: rest))))

/-- `ld.b` and `ld.w` as memory has them, on a quiet bus: the byte at the address, and the two bytes from the address
with bit 0 cleared, high-order byte first. Both are zero-extended; for `ld.w` that is the spec's decision D21. -/
def Obligations.BytesFromMemory : Prop :=
  Spells 0x48 .ldB ∧ Spells 0x4C .ldW ∧
  ∀ (s : State) (a : Word) (rest : List Word), s.busQuiet → s.os.cells = a :: rest →
    exec .ldB s = .next (advance (s.stack (BitVec.ofNat 32 (Memory.readByte s.mem a.toNat).toNat :: rest))) ∧
    exec .ldW s = .next (advance (s.stack
      (BitVec.ofNat 32 (256 * (Memory.readByte s.mem (2 * (a.toNat / 2))).toNat +
        (Memory.readByte s.mem (2 * (a.toNat / 2) + 1)).toNat) :: rest)))

/-- The stores, for every answer of the bus, wherever the cell is not the one at `npc` (the refusal of that case is
another statement's). `st []` pops the address and keeps the stored cell; the others pop the stored cell. -/
def Obligations.Stores : Prop :=
  Spells 0x60 .stS0 ∧ Spells 0x61 .stX ∧ Spells 0x69 .stXInc ∧ Spells 0x68 .stDecX ∧ Spells 0x62 .stR0 ∧
  Spells 0x66 .stR0Inc ∧ Spells 0x64 .stDecR0 ∧
  ∀ (s : State) (n : Word) (rest : List Word), s.os.cells = n :: rest → s.os.active = true →
    (∀ (v : Word) (below : List Word), rest = v :: below → n.toNat / 4 ≠ s.flow.npc.toNat / 4 →
      exec .stS0 s = .next (advance ((busWrite n v s).stack rest))) ∧
    (s.x.toNat / 4 ≠ s.flow.npc.toNat / 4 →
      exec .stX s = .next (advance ((busWrite s.x n s).stack rest)) ∧
      exec .stXInc s = .next (advance ((busWrite s.x n (s.setX (s.x + 4))).stack rest))) ∧
    ((s.x - 4).toNat / 4 ≠ s.flow.npc.toNat / 4 →
      exec .stDecX s = .next (advance ((busWrite (s.x - 4) n (s.setX (s.x - 4))).stack rest))) ∧
    ∀ (r0 : Word) (locals : List Word), s.ls.cells = r0 :: locals →
      (r0.toNat / 4 ≠ s.flow.npc.toNat / 4 →
        exec .stR0 s = .next (advance ((busWrite r0 n s).stack rest)) ∧
        exec .stR0Inc s = .next (advance ((busWrite r0 n (s.locals ((r0 + 4) :: locals))).stack rest))) ∧
      ((r0 - 4).toNat / 4 ≠ s.flow.npc.toNat / 4 →
        exec .stDecR0 s = .next (advance ((busWrite (r0 - 4) n (s.locals ((r0 - 4) :: locals))).stack rest)))

/-- Where the stores go: whatever the bus answers, every byte outside the cell that holds the store's address (computed
by `storeTarget`) reads as before; on a quiet bus and with memory in its canonical form (part of the invariant) that
cell then reads as the stored value (a posted write changes memory at once: log 38). -/
def Obligations.StoreMemory : Prop :=
  ∀ (i : Instr) (s t : State) (a v : Word), storeTarget i s = some (a, v) → exec i s = .next t →
    (∀ n : Nat, n / 4 ≠ a.toNat / 4 → Memory.readByte t.mem n = Memory.readByte s.mem n) ∧
    (Memory.wf s.mem = true → s.busQuiet → Memory.readCell t.mem a = v)

/-- One bus transfer. On a quiet bus a read answers the cell and changes nothing, and a write changes that cell only.
With posted writes enabled (`mspwe`) a write stores at once (log 38) and is then in progress, whatever its answer; at its
end, after as many instructions as its answer says or before the next transfer (R68, R95; log 9), its fault is reported
(R461 b). A transfer that *FAULTB ends sets the memory-fault signal and `mflt_write`, latches the address with its low
bits (log 31; and, for a write, the data), also over an older fault (U5, log 39), and makes the trap pending exactly if
it is enabled. A transfer that DVAL never ends leaves the CPU waiting (R97, U18): it makes no other transfer, waits on
while inputs without a reset are listed, and is stuck for good when none is left (log 8). -/
def Obligations.BusTransfers : Prop :=
  (∀ (s : State) (a v : Word), s.busQuiet →
    busRead a s = (Memory.readCell s.mem a, s) ∧ readFaults s = false ∧ fetchTraps s = false ∧
    (s.res.mspwe = false → busWrite a v s = s.setMem (Memory.writeCell s.mem a v)) ∧
    (s.res.mspwe = true → busWrite a v s = (s.setMem (Memory.writeCell s.mem a v)).setPlat
      { s.plat with posted := some { addr := a, data := v, dval := true, faultb := false, late := 0 } })) ∧
  (∀ (s : State) (ans : BusAnswer) (rest : List BusAnswer) (a v : Word), s.plat.posted = none →
    s.plat.stuck = false → s.plat.bus = ans :: rest →
    readFaults s = ans.faultb ∧ fetchTraps s = (ans.faultb && (trapEnables s).getLsbD 27) ∧
    (ans.dval = true → ans.faultb = true →
      (FaultReported false a s (busRead a s).2 ∧ (busRead a s).2.mem = s.mem) ∧
      (s.res.mspwe = false → FaultReported true a s (busWrite a v s) ∧ (busWrite a v s).res.mfltdata = v ∧
        (busWrite a v s).mem = (if ans.lands then Memory.writeCell s.mem a v else s.mem))) ∧
    (s.res.mspwe = true → busWrite a v s =
      (s.setMem (if (ans.dval && !ans.faultb) || ans.lands then Memory.writeCell s.mem a v else s.mem)).setPlat
        { s.plat with
          bus := rest
          posted := some { addr := a, data := v, dval := ans.dval, faultb := ans.faultb, late := ans.late } }) ∧
    (ans.dval = false → (busRead a s).2.plat.stuck = true ∧ (busRead a s).2.mem = s.mem ∧
      (s.res.mspwe = false → (busWrite a v s).plat.stuck = true ∧
        (busWrite a v s).mem = (if ans.lands then Memory.writeCell s.mem a v else s.mem)))) ∧
  (∀ (s : State) (p : PostedWrite) (a v : Word), s.plat.posted = some p →
    (p.dval = true →
      (p.faultb = false → finishPosted s = s.setPlat { s.plat with posted := none }) ∧
      (p.faultb = true → FaultReported true p.addr s (finishPosted s) ∧ (finishPosted s).res.mfltdata = p.data ∧
        (finishPosted s).mem = s.mem ∧ (finishPosted s).plat = { s.plat with posted := none }) ∧
      (p.late = 0 → postedTick s = finishPosted s) ∧
      busRead a s = busRead a (finishPosted s) ∧ busWrite a v s = busWrite a v (finishPosted s)) ∧
    (∀ k : Nat, p.late = k + 1 → postedTick s = s.setPlat { s.plat with posted := some { p with late := k } }) ∧
    (p.dval = false → (p.late = 0 → postedTick s = s) ∧ (busRead a s).2 = hang s ∧ busWrite a v s = hang s)) ∧
  ∀ s : State, s.plat.stuck = true →
    (s.plat.posted = none → ∀ a v : Word, (busRead a s).2 = s ∧ busWrite a v s = s) ∧
    (s.plat.env = [] → step s = .fault .busStuck) ∧
    ∀ (i : StepInput) (rest : List StepInput), s.plat.env = i :: rest → i.reset = none →
      step s = .next (samplePins i.samples (s.setPlat { s.plat with env := rest }))

/-! The stack caches (46_stack_cache.md, 10_state.md R26 to R35). -/

/-- The refills of a stack up to `m` cells on chip, on a quiet bus: the cells above the pointer, one after the other,
become the deepest ones, and the pointer moves up by four for each; memory and the other stack stay. -/
def Obligations.Refills : Prop :=
  ∀ (k : Stk) (m : Nat) (s t : State) (st : Stack), s.busQuiet → st = stackOf k s → t = fill k m s →
    stackOf k t =
      { cells := st.cells ++ (List.range (m - st.cells.length)).map
          fun j => Memory.readCell s.mem (st.ptr + BitVec.ofNat 32 (4 * (j + 1)))
        ptr := st.ptr + BitVec.ofNat 32 (4 * (m - st.cells.length)), active := st.active } ∧
    (∀ k' : Stk, k' ≠ k → stackOf k' t = stackOf k' s) ∧
    t.mem = s.mem ∧ t.flow = s.flow ∧ t.g = s.g ∧ t.x = s.x ∧ t.ct = s.ct ∧ t.res = s.res

/-- The spills of a stack down to `m` cells on chip, on a quiet bus, where none of them writes the cell at `npc` of the
group that spills: the deepest cells go to memory at the pointer and below it (and read so where memory was in its
canonical form, part of the invariant), and no other byte of memory changes. -/
def Obligations.Spills : Prop :=
  ∀ (npc : Word) (k : Stk) (m d : Nat) (s : State) (st : Stack), s.busQuiet → st = stackOf k s →
    d = st.cells.length - m → d ≤ 1024 →
    (∀ j : Nat, j < d → (st.ptr - BitVec.ofNat 32 (4 * j)).toNat / 4 ≠ npc.toNat / 4) →
    ∃ t, trim npc k m s = .next t ∧
      stackOf k t = { cells := st.cells.take m, ptr := st.ptr - BitVec.ofNat 32 (4 * d), active := st.active } ∧
      (Memory.wf s.mem = true → ∀ j : Nat, j < d →
        Memory.readCell t.mem (st.ptr - BitVec.ofNat 32 (4 * j)) = st.cells.getD (st.cells.length - 1 - j) 0) ∧
      (∀ n : Nat, (∀ j : Nat, j < d → n / 4 ≠ (st.ptr - BitVec.ofNat 32 (4 * j)).toNat / 4) →
        Memory.readByte t.mem n = Memory.readByte s.mem n) ∧
      (∀ k' : Stk, k' ≠ k → stackOf k' t = stackOf k' s) ∧
      t.flow = s.flow ∧ t.g = s.g ∧ t.x = s.x ∧ t.ct = s.ct ∧ t.res = s.res

/-- `lcache` and `scache` for counts -14 to 14: refill until n cells can be removed, spill until -n can be added, or
nothing (`Obligations.Refills` and `Obligations.Spills` say what that does). `lcache` pops its count, `scache` keeps
it; a cache that already holds enough, or has enough room, is left as it is. -/
def Obligations.CacheOps : Prop :=
  Spells 0x4D .lcache ∧ Spells 0x45 .scache ∧
  (∀ (k : Stk) (m : Nat) (s : State),
    (m ≤ (stackOf k s).cells.length → fill k m s = s) ∧ ((stackOf k s).cells.length ≤ m → ∀ npc : Word, trim npc k m s = .next s)) ∧
  ∀ (s : State) (n : Word) (rest : List Word), s.os.cells = n :: rest →
    (s.os.active = true →
      (1 ≤ n.toInt → n.toInt ≤ 14 →
        exec .lcache s = .next (advance (fill .ls (n.toInt.toNat + 1) (s.stack rest)))) ∧
      (∀ t : State, -14 ≤ n.toInt → n.toInt ≤ -1 →
        trim s.flow.npc .ls (15 - (-n.toInt).toNat) (s.stack rest) = .next t → exec .lcache s = .next (advance t)) ∧
      (n = 0 → exec .lcache s = .next (advance (s.stack rest)))) ∧
    (1 ≤ n.toInt → n.toInt ≤ 14 → exec .scache s = .next (advance (fill .os (2 + (n.toInt.toNat + 1)) s))) ∧
    (∀ t : State, -14 ≤ n.toInt → n.toInt ≤ -1 →
      trim s.flow.npc .os (2 + (15 - (-n.toInt).toNat)) s = .next t → exec .scache s = .next (advance t)) ∧
    (n = 0 → exec .scache s = .next (advance s))

/-- `lframe` and `sframe` for counts -15 to 15: n new cells of which nothing is known, or the n cells below the kept ones
discarded, those not on chip by moving the pointer alone. -/
def Obligations.Frames : Prop :=
  Spells 0xBE .lframe ∧ Spells 0xBF .sframe ∧
  (∀ (s : State) (n : Word) (rest : List Word), s.os.cells = n :: rest → s.os.active = true →
    (1 ≤ n.toInt → n.toInt ≤ 15 → ∃ (new : List Word) (f : Nat), (new.length : Int) = n.toInt ∧
      exec .lframe s = .next (advance (((s.stack rest).localsGrown (new ++ s.ls.cells)).setFree f))) ∧
    (∀ k : Nat, n.toInt = -(k : Int) → 1 ≤ k → k ≤ 15 → s.ls.active = true →
      exec .lframe s = .next (advance ((s.stack rest).setLs
        { cells := s.ls.cells.drop k, ptr := s.ls.ptr + BitVec.ofNat 32 (4 * (k - s.ls.cells.length)),
          active := true }))) ∧
    (n = 0 → exec .lframe s = .next (advance (s.stack rest)))) ∧
  ∀ (s : State) (n m : Word) (rest : List Word), s.os.cells = n :: m :: rest →
    (1 ≤ n.toInt → n.toInt ≤ 15 → ∃ (new : List Word) (f : Nat), (new.length : Int) = n.toInt ∧
      exec .sframe s = .next (advance ((s.grown (n :: m :: (new ++ rest))).setFree f))) ∧
    (∀ k : Nat, n.toInt = -(k : Int) → 1 ≤ k → k ≤ 15 → s.os.active = true →
      exec .sframe s = .next (advance (s.setOs
        { cells := n :: m :: rest.drop k, ptr := s.os.ptr + BitVec.ofNat 32 (4 * (k - rest.length)),
          active := true }))) ∧
    (n = 0 → exec .sframe s = .next (advance s))

/-- `pop sa` and `pop la`: the cached cells are discarded, the pointer is loaded with its two low bits cleared, the
boundary bit is cleared and the stack is allocated; the refill that `Normalize` then makes brings the cell above the
pointer in. -/
def Obligations.StackPointers : Prop :=
  Spells 0xBC .popSa ∧ Spells 0xBD .popLa ∧
  (∀ (s : State) (a m1 m2 : Word) (rest : List Word), s.os.cells = a :: m2 :: m1 :: rest →
    exec .popSa s = .next (advance ((s.setOs { cells := [m2, m1], ptr := a &&& 0xFFFFFFFC, active := true }).setMode
      (s.mode &&& 0xFFEFFFFF)))) ∧
  (∀ (s : State) (a : Word) (rest : List Word), s.os.cells = a :: rest → s.os.active = true →
    exec .popLa s = .next (advance
      (((s.stack rest).setLs { cells := [], ptr := a &&& 0xFFFFFFFC, active := true }).setMode
        (s.mode &&& 0xFDFFFFFF)))) ∧
  (∀ (s t : State) (npc m1 m2 : Word), s.busQuiet → s.os.cells = [m2, m1] → s.os.active = true → s.lsWithin →
    normalize npc s = .next t →
    t.os = { cells := [m2, m1, Memory.readCell s.mem (s.os.ptr + 4)], ptr := s.os.ptr + 4, active := true }) ∧
  ∀ (s t : State) (npc : Word), s.busQuiet → s.osWithin → s.ls.cells = [] → s.ls.active = true → normalize npc s = .next t →
    t.ls = { cells := [Memory.readCell s.mem (s.ls.ptr + 4)], ptr := s.ls.ptr + 4, active := true }

/-! Byte and word operations (47_byte_word.md). -/

/-- The byte and word operations; only `testb` writes carry. -/
def Obligations.ByteWord : Prop :=
  Spells 0xD0 .copyb ∧ Spells 0xD9 .testb ∧ Spells 0xD8 .sexb ∧ Spells 0x95 .sexw ∧ Spells 0x99 .split ∧
  Spells 0xDA .replb ∧ Spells 0xEB .replw ∧
  (∀ (s : State) (n1 : Word) (rest : List Word), s.os.cells = n1 :: rest →
    exec .copyb s = .next (advance (s.stack (BitVec.ofNat 32 (n1.toNat % 256 * 0x01010101) :: rest))) ∧
    exec .testb s = .next (advance (s.withCarry
      (decide (∃ k : Fin 4, n1.toNat / 256 ^ k.val % 256 = 0)))) ∧
    exec .sexb s = .next (advance (s.stack (BitVec.ofInt 32 (BitVec.ofNat 8 n1.toNat).toInt :: rest))) ∧
    exec .sexw s = .next (advance (s.stack (BitVec.ofInt 32 (BitVec.ofNat 16 n1.toNat).toInt :: rest))) ∧
    exec .split s = .next (advance
      (s.grown (BitVec.ofNat 32 (n1.toNat / 2 ^ 16) :: BitVec.ofNat 32 (n1.toNat % 2 ^ 16) :: rest)))) ∧
  ∀ (s : State) (n1 n2 : Word) (rest : List Word), s.os.cells = n2 :: n1 :: rest → s.os.active = true →
    (∃ n3 : Word, exec .replb s = .next (advance (s.stack (n3 :: rest))) ∧
      ∀ k : Fin 4, groupByte n3 (BitVec.ofNat 2 k.val) =
        if k.val = s.x.toNat % 4 then n1.setWidth 8 else groupByte n2 (BitVec.ofNat 2 k.val)) ∧
    exec .replw s = .next (advance (s.stack
      (BitVec.ofNat 32 (if s.x.toNat / 2 % 2 = 0 then n1.toNat % 2 ^ 16 * 2 ^ 16 + n2.toNat % 2 ^ 16
        else n2.toNat / 2 ^ 16 * 2 ^ 16 + n1.toNat % 2 ^ 16) :: rest)))

/-! Floating-point support (48_float.md). -/

/-- `addexp`, `subexp` and `expdif`: the exponent fields as exact numbers, as many low-order bits of the result as the
field holds; the two significands with the hidden bit set. That n5 has no other bits is the spec's decision D29, that
the difference wraps its decision D20. -/
def Obligations.FloatExponents : Prop :=
  Spells 0xD2 .addexp ∧ Spells 0xD3 .subexp ∧ Spells 0xC4 .expdif ∧
  ∀ (s : State) (n1 n2 : Word) (rest : List Word) (d : Bool), s.os.cells = n2 :: n1 :: rest → d = s.double →
    (∀ (e : Int) (i : Instr),
      (i = .addexp ∧ e = (expOf d n1 : Int) - bias d + expOf d n2) ∨
        (i = .subexp ∧ e = (expOf d n1 : Int) - expOf d n2 + bias d - 1) →
      exec i s = .next (advance ((signalWhen (decide (e ≤ 0)) .fpUnf (signalWhen (decide (expMax d ≤ e)) .fpOvf s)).grown
        ((((n1 ^^^ n2) &&& 0x80000000) ||| BitVec.ofInt 32 (e % 2 ^ expWidth d * 2 ^ hiddenPos d)) ::
          sigOf d n2 :: sigOf d n1 :: rest)))) ∧
    exec .expdif s = .next (advance ((s.stack (sigOf d n2 :: sigOf d n1 :: rest)).setCt
      ((s.ct &&& 0x0000FFFF) ||| BitVec.ofInt 32
        (((expOf d n1 : Int) - expOf d n2) % 2 ^ expWidth d * 2 ^ hiddenPos d))))

/-- `extexp`, `extsig`, `replexp` and `testexp`, in both precisions; the last two clear the GRS extension, and `testexp`
sets carry and signals the exponent exception exactly when an exponent field is all zeros or all ones. -/
def Obligations.FloatFields : Prop :=
  Spells 0xDB .extexp ∧ Spells 0xDC .extsig ∧ Spells 0xB5 .replexp ∧ Spells 0xD4 .testexp ∧
  (∀ (s : State) (n1 : Word) (rest : List Word), s.os.cells = n1 :: rest →
    exec .extexp s = .next (advance
      (s.stack ((n1 &&& (if s.mode.getLsbD 0 then 0xFFF00000 else 0xFF800000)) :: rest))) ∧
    exec .extsig s = .next (advance (s.stack
      ((if s.mode.getLsbD 0 then (n1 &&& 0x000FFFFF) ||| 0x00100000 else (n1 &&& 0x007FFFFF) ||| 0x00800000) ::
        rest)))) ∧
  ∀ (s : State) (n1 n2 : Word) (rest : List Word), s.os.cells = n2 :: n1 :: rest →
    (s.os.active = true → exec .replexp s = .next (advance ((s.stack
      ((if s.mode.getLsbD 0 then (n1 &&& 0x000FFFFF) ||| (n2 &&& 0xFFF00000)
        else (n1 &&& 0x007FFFFF) ||| (n2 &&& 0xFF800000)) :: rest)).withGrs ⟨false, false, false⟩))) ∧
    ∀ b : Bool,
      b = (if s.mode.getLsbD 0 then
          decide (n1.toNat / 2 ^ 20 % 2048 = 0 ∨ n1.toNat / 2 ^ 20 % 2048 = 2047 ∨
            n2.toNat / 2 ^ 20 % 2048 = 0 ∨ n2.toNat / 2 ^ 20 % 2048 = 2047)
        else decide (n1.toNat / 2 ^ 23 % 256 = 0 ∨ n1.toNat / 2 ^ 23 % 256 = 255 ∨
            n2.toNat / 2 ^ 23 % 256 = 0 ∨ n2.toNat / 2 ^ 23 % 256 = 255)) →
      exec .testexp s =
        .next (advance (signalWhen b .fpExp ((s.withGrs ⟨false, false, false⟩).withCarry b)))

/-- `denorm` in closed form: the significand shifted right by the count in the exponent field of `ct`, every bit that
leaves through the GRS extension, zeros entering at the top (D17); beyond the significand's width plus three, zero and
sticky alone. The exponent field of `ct` becomes zero; any GRS bit signals the normalize exception. -/
def Obligations.Denormalize : Prop :=
  Spells 0xC5 .denorm ∧
  (∀ (s : State) (n1 : Word) (rest : List Word) (c : Nat) (e : Grs), s.os.cells = n1 :: rest → s.double = false →
    c = s.ct.toNat / 2 ^ 23 % 256 →
    e = (if 26 < c then ⟨false, false, true⟩ else grsAfter (bitLeaving false n1) c (grsOf s.mode)) →
    exec .denorm s = .next (advance ((signalWhen (decide (eighths e ≠ 0)) .fpNrm
      ((s.withGrs e).setCt (s.ct &&& 0x807FFFFF))).stack ((if 26 < c then 0 else n1 >>> c) :: rest)))) ∧
  ∀ (s : State) (hi lo : Word) (rest : List Word) (c : Nat) (e : Grs) (v : BitVec 64), s.os.cells = hi :: lo :: rest →
    s.double = true → c = s.ct.toNat / 2 ^ 20 % 2048 → v = (if 55 < c then 0 else (hi ++ lo) >>> c) →
    e = (if 55 < c then ⟨false, false, true⟩ else grsAfter (bitLeaving false (hi ++ lo)) c (grsOf s.mode)) →
    exec .denorm s = .next (advance ((signalWhen (decide (eighths e ≠ 0)) .fpNrm
      ((s.withGrs e).setCt (s.ct &&& 0x800FFFFF))).stack (v.extractLsb' 32 32 :: v.extractLsb' 0 32 :: rest)))

/-- `normr` in closed form: `k` is the least count after which no exponent bit above the hidden bit is set (bit 31 is not
one of them: D19); zeros enter at the top (D17). Overflow is signalled only where something was shifted. -/
def Obligations.NormalizeRight : Prop :=
  Spells 0xC6 .normr ∧
  (∀ (s : State) (n1 : Word) (rest : List Word) (k : Nat) (e : Grs), s.os.cells = n1 :: rest → s.double = false →
    (n1 >>> k) &&& 0x7F000000 = 0 → (∀ j : Nat, j < k → (n1 >>> j) &&& 0x7F000000 ≠ 0) →
    e = grsAfter (bitLeaving false n1) k (grsOf s.mode) →
    exec .normr s = .next (advance ((signalWhen (decide (eighths e ≠ 0)) .fpNrm
      (signalWhen (decide (0 < k ∧ 255 ≤ s.ct.toNat / 2 ^ 23 % 256 + k)) .fpOvf ((s.withGrs e).setCt
        ((s.ct &&& 0x807FFFFF) ||| BitVec.ofNat 32 ((s.ct.toNat / 2 ^ 23 % 256 + k) % 256 * 2 ^ 23))))).stack
      ((n1 >>> k) :: rest)))) ∧
  ∀ (s : State) (hi lo : Word) (rest : List Word) (k : Nat) (e : Grs), s.os.cells = hi :: lo :: rest →
    s.double = true → ((hi ++ lo : BitVec 64) >>> k) &&& 0x7FE0000000000000 = 0 →
    (∀ j : Nat, j < k → ((hi ++ lo : BitVec 64) >>> j) &&& 0x7FE0000000000000 ≠ 0) →
    e = grsAfter (bitLeaving false (hi ++ lo)) k (grsOf s.mode) →
    exec .normr s = .next (advance ((signalWhen (decide (eighths e ≠ 0)) .fpNrm
      (signalWhen (decide (0 < k ∧ 2047 ≤ s.ct.toNat / 2 ^ 20 % 2048 + k)) .fpOvf ((s.withGrs e).setCt
        ((s.ct &&& 0x800FFFFF) ||| BitVec.ofNat 32 ((s.ct.toNat / 2 ^ 20 % 2048 + k) % 2048 * 2 ^ 20))))).stack
      (((hi ++ lo : BitVec 64) >>> k).extractLsb' 32 32 :: ((hi ++ lo : BitVec 64) >>> k).extractLsb' 0 32 :: rest)))

/-- `norml` in closed form: with the GRS extension as three more bits below the significand, everything is shifted left
by the least `k` that brings a one to the hidden bit, zeros entering below (D28). Underflow is signalled only where
something was shifted. -/
def Obligations.NormalizeLeft : Prop :=
  Spells 0xC7 .norml ∧
  (∀ (s : State) (n1 : Word) (rest : List Word) (k : Nat) (e : Grs) (w : BitVec 35), s.os.cells = n1 :: rest →
    s.double = false → w = n1 ++ BitVec.ofNat 3 (eighths (grsOf s.mode)) → k ≤ 26 → w.getLsbD (26 - k) = true →
    (∀ j : Nat, j < k → w.getLsbD (26 - j) = false) →
    e = ⟨(w <<< k).getLsbD 2, (w <<< k).getLsbD 1, (w <<< k).getLsbD 0⟩ →
    exec .norml s = .next (advance ((signalWhen (decide (eighths e ≠ 0)) .fpNrm
      (signalWhen (decide (0 < k ∧ s.ct.toNat / 2 ^ 23 % 256 ≤ k)) .fpUnf ((s.withGrs e).setCt
        ((s.ct &&& 0x807FFFFF) |||
          BitVec.ofInt 32 (((s.ct.toNat / 2 ^ 23 % 256 : Nat) - (k : Int)) % 256 * 2 ^ 23))))).stack
      ((w <<< k).extractLsb' 3 32 :: rest)))) ∧
  ∀ (s : State) (hi lo : Word) (rest : List Word) (k : Nat) (e : Grs) (w : BitVec 67), s.os.cells = hi :: lo :: rest →
    s.double = true → w = hi ++ lo ++ BitVec.ofNat 3 (eighths (grsOf s.mode)) → k ≤ 55 →
    w.getLsbD (55 - k) = true → (∀ j : Nat, j < k → w.getLsbD (55 - j) = false) →
    e = ⟨(w <<< k).getLsbD 2, (w <<< k).getLsbD 1, (w <<< k).getLsbD 0⟩ →
    exec .norml s = .next (advance ((signalWhen (decide (eighths e ≠ 0)) .fpNrm
      (signalWhen (decide (0 < k ∧ s.ct.toNat / 2 ^ 20 % 2048 ≤ k)) .fpUnf ((s.withGrs e).setCt
        ((s.ct &&& 0x800FFFFF) |||
          BitVec.ofInt 32 (((s.ct.toNat / 2 ^ 20 % 2048 : Nat) - (k : Int)) % 2048 * 2 ^ 20))))).stack
      ((w <<< k).extractLsb' 35 32 :: (w <<< k).extractLsb' 3 32 :: rest)))

/-- `rnd`: s0 is rounded by the rounding mode, the sign of `ct` and the GRS extension, to even at exactly one half; carry
is the carry out of bit 31, and the round exception is signalled exactly when s0 changed. The GRS extension and `ct`
stay (D18). -/
def Obligations.Rounding : Prop :=
  Spells 0xD1 .rnd ∧
  ∀ (s : State) (n1 n2 : Word) (rest : List Word), s.os.cells = n1 :: rest →
    n2 = rounded (s.mode.extractLsb' 1 2) s.ct.msb (eighths (grsOf s.mode)) n1 →
    exec .rnd s = .next (advance ((signalWhen (decide (n2 ≠ n1)) .fpRnd
      (s.withCarry (roundsUp (s.mode.extractLsb' 1 2) s.ct.msb (eighths (grsOf s.mode)) &&
        decide (n1 = 0xFFFFFFFF)))).stack (n2 :: rest)))

/-! Debugging, on-chip resources, unassigned opcodes (49_debug_onchip_misc.md, 30_encoding.md). -/

/-- `bkpt` pushes the address of its own opcode, blocks interrupts (the spec's reading) and enters 0x134; `step` returns
with the single-step trap armed, wherever it does not enter a group behind a `push.l` (R256) or its own fetch traps or
never ends (log 16). -/
def Obligations.Debugging : Prop :=
  Spells 0x3C .bkpt ∧ Spells 0x34 .step ∧
  (∀ s : State,
    exec .bkpt s = .next (enterGroup 0x134 (s.localsGrown (s.flow.pc :: s.ls.cells)).blocked)) ∧
  ∀ (s t : State) (a : Word) (rest : List Word), s.ls.cells = a :: rest → s.ls.active = true →
    t = enterGroup a ((s.locals rest).setCtl { s.ctl with stepPending := true }) →
    LiteralFree (group t) a ∨ fetchTraps s = true ∨ t.plat.stuck = true → exec .step s = .next t

/-- The end of a step (10_state.md R24 steps 6 and 7, R65, R466) with nothing pending: after the instruction that `step`
transferred to, the single-step trap pushes the address of the next instruction and enters 0x138; otherwise nothing. A
`step` that is itself stepped arms the trap again and takes none (decision D30, log 28). An instruction at byte one ends
the blocking of interrupts, but for `bkpt`, which has just begun it (R430). A step of the machine that runs `step` and
leaves a trap pending is refused (U16, log 23). -/
def Obligations.SingleStep : Prop :=
  (∀ (s : State) (i : Instr), s.ctl.pending = [] → i ≠ .step →
    endStep i false s = .next s ∧
    (s.busQuiet → s.osWithin → s.lsWithin → s.ls.cells.length < 15 →
      endStep i true s = .next (((s.localsGrown (s.flow.pc :: s.ls.cells)).setCtl
        { s.ctl with intBlock := true, stepPending := false }).enteredAt 0x138))) ∧
  (∀ (s : State) (b : Bool), s.ctl.pending = [] → endStep .step b s = .next s) ∧
  (∀ (s : State) (i : Instr) (p : BitVec 2),
    releaseBlock i p s = if p = 1 ∧ i ≠ .bkpt then s.setCtl { s.ctl with intBlock := false } else s) ∧
  ∀ (s v w t : State) (g : Word), s.plat.stuck = false → s.flow.grp = some g → (takeInput s).1.reset = none →
    v = samplePins (takeInput s).1.samples (takeInput s).2 → s.ctl.pending = [] → (recognize v).1 = none →
    decode g (byteIndex s.flow.pc) = .ok .step → exec .step (beginInstr (recognize v).2) = .next w →
    normalize s.flow.npc w = .next t → (postedTick t).ctl.pending ≠ [] → t.plat.stuck = false →
    step s = .refused .trapAtStep

/-- `ldo []` and `ldo.i []`: each register at its address, zero-extended; each bit at its bit address, all ones or zero.
A read of `mfltaddr` ends the latch. -/
def Obligations.ResourceReads : Prop :=
  Spells 0x96 .ldo ∧ Spells 0x97 .ldoI ∧
  ∀ (s : State) (a : Word) (rest : List Word), s.os.cells = a :: rest →
    (∀ r : ByteReg, a = BitVec.ofNat 32 (baseOf r) →
      exec .ldo s = .next (advance (s.stack (BitVec.ofNat 32 (readByteReg r s).toNat :: rest)))) ∧
    (a = 0x120 → s.res.mfltLatched = true → exec .ldo s = .next (advance
      ((s.stack (s.res.mfltaddr :: rest)).setRes { s.res with mfltLatched := false }))) ∧
    (a = 0x140 → s.res.mfltLatched = true →
      exec .ldo s = .next (advance (s.stack (s.res.mfltdata :: rest)))) ∧
    (a = 0x1A0 → ∃ v : Word, v.getLsbD Config.mspweBit.val = s.res.mspwe ∧
      exec .ldo s = .next (advance (s.stack (v :: rest)))) ∧
    ∀ (r : ByteReg) (k : Fin 8), a = BitVec.ofNat 32 (baseOf r + k.val) →
      exec .ldoI s = .next (advance
        (s.stack ((if (readByteReg r s).getLsbD k.val then 0xFFFFFFFF else 0) :: rest)))

/-- `sto []` and `sto.i []`: the stored cell stays, the address is popped. A register write replaces all eight bits, a
bit write that one bit; a one written to `ioin` takes the most recent pin sample instead. Of a write to `miscc` the
model keeps the one bit `mspwe` (log 13: a register that keeps all 32 bits is as consistent with the source). Writes to the two fault registers do nothing (D8). No other register changes. -/
def Obligations.ResourceWrites : Prop :=
  Spells 0xB0 .sto ∧ Spells 0xB1 .stoI ∧
  ∀ (s : State) (a n : Word) (rest : List Word), s.os.cells = a :: n :: rest → s.os.active = true →
    (∀ r : ByteReg, a = BitVec.ofNat 32 (baseOf r) → ∃ t : Resources,
      exec .sto s = .next (advance ((s.stack (n :: rest)).setRes t)) ∧
      (∀ q : ByteReg, readByteReg q (s.setRes t) =
        if q = r then (if r = .ioin then n.setWidth 8 &&& s.plat.pins else n.setWidth 8) else readByteReg q s) ∧
      t.mspwe = s.res.mspwe ∧ t.mfltaddr = s.res.mfltaddr ∧ t.mfltdata = s.res.mfltdata ∧
      t.mfltLatched = s.res.mfltLatched) ∧
    (a = 0x120 ∨ a = 0x140 → exec .sto s = .next (advance (s.stack (n :: rest)))) ∧
    (a = 0x1A0 → exec .sto s = .next (advance
      ((s.stack (n :: rest)).setRes { s.res with mspwe := n.getLsbD Config.mspweBit.val }))) ∧
    ∀ (r : ByteReg) (k : Fin 8), a = BitVec.ofNat 32 (baseOf r + k.val) → ∃ t : Resources,
      exec .stoI s = .next (advance ((s.stack (n :: rest)).setRes t)) ∧
      (∀ (q : ByteReg) (j : Fin 8), (readByteReg q (s.setRes t)).getLsbD j.val =
        if q = r ∧ j = k then decide (n ≠ 0) && (decide (r ≠ .ioin) || s.plat.pins.getLsbD k.val)
        else (readByteReg q s).getLsbD j.val) ∧
      t.mspwe = s.res.mspwe ∧ t.mfltaddr = s.res.mfltaddr ∧ t.mfltdata = s.res.mfltdata ∧
      t.mfltLatched = s.res.mfltLatched

/-- The 27 unassigned opcode values (D15): each decodes to an instruction of its own, which is refused by name from every
state. -/
def Obligations.UnassignedRefused : Prop :=
  (∀ (i : Instr) (b : Byte), (i, b) ∈ [(Instr.unassigned43, 0x43#8), (.unassigned47, 0x47), (.unassigned63, 0x63),
      (.unassigned65, 0x65), (.unassigned67, 0x67), (.unassigned6A, 0x6A), (.unassigned6B, 0x6B),
      (.unassigned6C, 0x6C), (.unassigned6D, 0x6D), (.unassigned8F, 0x8F), (.unassignedAF, 0xAF)] →
    Spells b i ∧ ∀ s : State, exec i s = .refused (.unassignedOpcode b)) ∧
  ∀ low : BitVec 4, Spells (0xF#4 ++ low) (.unassignedF low) ∧
    ∀ s : State, exec (.unassignedF low) s = .refused (.unassignedOpcode (0xF#4 ++ low))

/-- Where the model stops because the spec asks a model to (logs 15, 16, 17, 22, 24, 26): shrinking a stack that is not
allocated yet, `lframe` and `sframe` with a negative count included; each of the five transfers that enters a group
behind a `push.l` of it; storing or spilling to the cell at `npc` of the group that stores, unless the CPU waits for
ever in that write or before it (R97; log 8), where the store is not refused; a `push.l` repeated by a
micro-loop; a cache or frame count out of range; an address that is no resource register or bit. -/
def Obligations.RefusedOutsideTheSpec : Prop :=
  (∀ (i : Instr) (s : State), (shrinksOperands i = true ∧ s.os.active = false) ∨
      (shrinksLocals i = true ∧ s.ls.active = false) → exec i s = .refused .unallocatedStack) ∧
  (∀ (s : State) (n : Word) (rest : List Word), s.os.cells = n :: rest → -15 ≤ n.toInt → n.toInt ≤ -1 →
    (s.os.active = true → s.ls.active = false → exec .lframe s = .refused .unallocatedStack) ∧
    (s.os.active = false → exec .sframe s = .refused .unallocatedStack)) ∧
  (∀ (s t : State) (a : Word) (rest : List Word), ¬ LiteralFree (group t) a → fetchTraps s = false →
    t.plat.stuck = false →
    (s.os.cells = a :: rest → s.os.active = true →
      (t = enterGroup a (s.stack rest) → exec .brIndirect s = .refused .midGroupAfterLiteral) ∧
      (t = enterGroup a ((s.stack rest).localsGrown
          ((if s.flow.pc.toNat % 4 = 3 ∨ (s.flow.pc.toNat % 4 = 2 ∧ s.flow.bytelit = true) then s.flow.npc
            else s.flow.pc + 1) :: s.ls.cells)) → exec .callIndirect s = .refused .midGroupAfterLiteral)) ∧
    (s.ls.cells = a :: rest → s.ls.active = true →
      (t = enterGroup a (s.locals rest) → exec .ret s = .refused .midGroupAfterLiteral) ∧
      (t = enterGroup a ((s.locals rest).setRes { s.res with ioius := s.res.ioius &&& (s.res.ioius - 1) }) →
        exec .reti s = .refused .midGroupAfterLiteral) ∧
      (t = enterGroup a ((s.locals rest).setCtl { s.ctl with stepPending := true }) →
        exec .step s = .refused .midGroupAfterLiteral))) ∧
  (∀ (i : Instr) (s : State) (a v : Word), storeTarget i s = some (a, v) → a.toNat / 4 = s.flow.npc.toNat / 4 →
    s.os.active = true →
    ((busWrite a v (storeState i s)).plat.stuck = false → exec i s = .refused .storeToPrefetchedCell) ∧
    ((busWrite a v (storeState i s)).plat.stuck = true → ∃ t : State, exec i s = .next t ∧ t.plat.stuck = true ∧
      t.mem = (busWrite a v (storeState i s)).mem)) ∧
  (∀ (npc : Word) (s : State),
    (∀ (k : Stk) (m : Nat), (spillRaw k s).plat.stuck = false → m < (stackOf k s).cells.length → (stackOf k s).ptr.toNat / 4 = npc.toNat / 4 →
      trim npc k m s = .refused .storeToPrefetchedCell) ∧
    ((spillRaw .os s).plat.stuck = false → 17 < s.os.cells.length → s.os.ptr.toNat / 4 = npc.toNat / 4 →
      normalize npc s = .refused .storeToPrefetchedCell) ∧
    ((spillRaw .ls s).plat.stuck = false → s.osWithin → 15 < s.ls.cells.length → s.ls.ptr.toNat / 4 = npc.toNat / 4 →
      normalize npc s = .refused .storeToPrefetchedCell)) ∧
  (∀ s : State, literalTaken s = true → exec .pushL s = .refused .literalInMicroLoop) ∧
  ∀ (s : State) (n : Word) (rest : List Word), s.os.cells = n :: rest →
    (n.toInt < -14 ∨ 14 < n.toInt → exec .scache s = .refused .countOutOfRange ∧
      (s.os.active = true → exec .lcache s = .refused .countOutOfRange)) ∧
    (n.toInt < -15 ∨ 15 < n.toInt → exec .sframe s = .refused .countOutOfRange ∧
      (s.os.active = true → exec .lframe s = .refused .countOutOfRange)) ∧
    (n ∉ [0x000#32, 0x020#32, 0x040#32, 0x060#32, 0x080#32, 0x120#32, 0x140#32, 0x1A0#32] →
      exec .ldo s = .refused .badResourceAddress ∧
      (s.os.active = true → exec .sto s = .refused .badResourceAddress)) ∧
    (n.toNat / 8 ∉ [0, 4, 8, 12, 16] →
      exec .ldoI s = .refused .badResourceAddress ∧
      (s.os.active = true → exec .stoI s = .refused .badResourceAddress))

/-- Where the spec leaves a value open the instruction completes with a value nothing is said about (logs 7, 10, 15, 19):
`mulfs` with a count outside 1 to 32 (its results, `ct` and the GRS extension); `norml` on a significand that is zero from the hidden bit down, GRS extension
included; `push s2`, `rev` and `pop sa` while s2 is not allocated; a read of a fault register that holds nothing;
`ld.b` and `ld.w` whose read faults, which push the undefined value as `busRead` delivers it, no bit of it cleared. All
else is as the statements above say. -/
def Obligations.OpenValues : Prop :=
  (∀ (s : State) (n1 n2 : Word) (rest : List Word), s.os.cells = n2 :: n1 :: rest → s.os.active = true →
    (s.ct = 0 ∨ 32 < s.ct.toNat) → ∃ (a b c : Word) (e : Grs) (f : Nat),
      exec .mulfs s = .next (advance ((((s.stack (a :: b :: rest)).setCt c).withGrs e).setFree f))) ∧
  (∀ (s : State) (n1 n2 : Word) (rest : List Word), s.os.cells = n2 :: n1 :: rest →
    grsOf s.mode = ⟨false, false, false⟩ →
    (if s.double then n2 &&& 0x001FFFFF = 0 ∧ n1 = 0 else n2 &&& 0x00FFFFFF = 0) →
    ∃ (cells : List Word) (c : Word) (e : Grs) (b : Bool) (f : Nat),
      cells.length = (if s.double then 2 else 1) ∧
      exec .norml s = .next (advance (((signalWhen (decide (eighths e ≠ 0)) .fpNrm (signalWhen b .fpUnf
        ((s.withGrs e).setCt c))).stack (cells ++ (if s.double then rest else n1 :: rest))).setFree f))) ∧
  (∀ (s : State) (n1 n2 : Word), s.os.cells = [n2, n1] → ∃ (v : Word) (f : Nat),
    exec .pushS2 s = .next (advance ((s.grown [v, n2, n1]).setFree f)) ∧
    exec .rev s = .next (advance ((s.stack [v, n2]).setFree f)) ∧
    exec .popSa s = .next (advance (((s.setOs { cells := [n1, v], ptr := n2 &&& 0xFFFFFFFC, active := true }).setMode
      (s.mode &&& 0xFFEFFFFF)).setFree f))) ∧
  (∀ (s t : State) (a v : Word) (rest : List Word), s.os.cells = a :: rest → readFaults s = true →
    busRead a s = (v, t) →
    exec .ldB s = .next (advance (t.stack (v :: rest))) ∧ exec .ldW s = .next (advance (t.stack (v :: rest)))) ∧
  ∀ (s : State) (a : Word) (rest : List Word), s.os.cells = a :: rest → s.res.mfltLatched = false →
    a = 0x120 ∨ a = 0x140 → ∃ (v : Word) (f : Nat),
      exec .ldo s = .next (advance ((s.stack (v :: rest)).setFree f))

/-! Exceptions, traps and interrupts (60_exceptions.md). -/

/-- Signalling an exception sets its signal bit and no other bit of `mode`, whatever it was before, and makes its trap
pending exactly if its enable bit is set: in `mode`, or, until a `pop mode` has completed, in the `mode` before it
(R300; log 41). The next instruction ends that. -/
def Obligations.Signalling : Prop :=
  (∀ s : State, (s.ctl.enOld = none → trapEnables s = s.mode) ∧
    (∀ m : Word, s.ctl.enOld = some m → trapEnables s = m) ∧ (beginInstr s).ctl.enOld = none) ∧
  ∀ (s : State) (x : Trap) (sig en : Nat), (x, sig, en) ∈ trapTable →
    (∀ k : Nat, (signal x s).mode.getLsbD k = (decide (k = sig) || s.mode.getLsbD k)) ∧
    (∀ u : Trap, u ∈ (signal x s).ctl.pending ↔ u ∈ s.ctl.pending ∨ (u = x ∧ (trapEnables s).getLsbD en = true)) ∧
    (signal x s).flow = s.flow ∧ (signal x s).os = s.os ∧ (signal x s).ls = s.ls ∧ (signal x s).g = s.g ∧
    (signal x s).x = s.x ∧ (signal x s).ct = s.ct ∧ (signal x s).res = s.res ∧ (signal x s).mem = s.mem ∧
    (signal x s).plat = s.plat

/-- The stack-page exceptions: a spill into the first 32 cells of a 1024-byte page, or a refill from its last 32, sets
the boundary bit and signals, unless the boundary bit is set already; the pointer coming to the 32 cells in the middle
clears the boundary bit (the bounds of the middle are the spec's reading). -/
def Obligations.PageExceptions : Prop :=
  ∀ (s t : State) (k : Stk) (spilled crossed : Bool) (a p : Word) (x : Trap) (sig en bound : Nat),
    (x, sig, en, bound) = pageException k spilled → t = checkPage k spilled a s →
    crossed = (!s.mode.getLsbD bound && decide (a.toNat % 1024 / 128 = if spilled then 0 else 7)) →
    p = (if spilled then a - 4 else a) →
    t.mode.getLsbD sig = (s.mode.getLsbD sig || crossed) ∧
    t.mode.getLsbD bound = ((s.mode.getLsbD bound || crossed) && decide (p.toNat % 1024 / 128 ≠ 4)) ∧
    (∀ j : Nat, j ≠ sig → j ≠ bound → t.mode.getLsbD j = s.mode.getLsbD j) ∧
    (∀ u : Trap, u ∈ t.ctl.pending ↔
      u ∈ s.ctl.pending ∨ (u = x ∧ crossed = true ∧ (trapEnables s).getLsbD en = true)) ∧
    t.os = s.os ∧ t.ls = s.ls ∧ t.mem = s.mem ∧ t.flow = s.flow

/-- The priority of the traps (D2): a strict total order with the four stack-page traps above all others, the
single-step trap below all others, and the normalize trap below underflow and overflow; nothing else is fixed. -/
def Obligations.TrapOrder : Prop :=
  (∀ t : Trap, trapBelow t t = false) ∧
  (∀ t u : Trap, t ≠ u → (trapBelow t u = true ↔ trapBelow u t = false)) ∧
  (∀ t u v : Trap, trapBelow t u = true → trapBelow u v = true → trapBelow t v = true) ∧
  (∀ t u : Trap, t ∈ [Trap.osOvf, .osUnf, .lsOvf, .lsUnf] → u ∉ [Trap.osOvf, .osUnf, .lsOvf, .lsUnf] →
    trapBelow u t = true) ∧
  (∀ t : Trap, t ≠ .step → trapBelow .step t = true) ∧
  trapBelow .fpNrm .fpUnf = true ∧ trapBelow .fpNrm .fpOvf = true

/-- Taking the pending traps, on a quiet bus with room on chip for every return address: from the deepest cell up the
local-register stack receives the address where execution would continue and the vectors of the lower-priority traps in
rising priority; interrupts are blocked and the vector of the highest-priority trap is entered. Only the return
addresses are saved. -/
def Obligations.TrapNesting : Prop :=
  ∀ s : State, s.busQuiet → s.osWithin → s.ctl.pending ≠ [] → s.ctl.pending.Nodup →
    s.ls.cells.length + s.ctl.pending.length ≤ 15 →
    ∃ (lower : List Trap) (top : Trap),
      (lower ++ [top]).Perm s.ctl.pending ∧ (lower ++ [top]).Pairwise (fun t u => trapBelow t u = true) ∧
      takePending s = (((s.localsGrown ((lower.map vectorOf).reverse ++ s.flow.pc :: s.ls.cells)).setCtl
        { s.ctl with intBlock := true, pending := [] }).enteredAt (vectorOf top))

/-- Interrupt recognition (R480) where `ei`, `di` or `pop mode` was not the instruction just before. Not taken: in
mid-group, while blocked or single-stepping (decision D30, log 28), while disabled, or with no pending interrupt above every one under service.
Taken otherwise, as a step of its own (log 35): interrupt `p` moves from `ioip` to `ioius`, the address of the group about to
execute is pushed, interrupts are blocked and the vector is entered. -/
def Obligations.InterruptEntry : Prop :=
  (∀ u : State, (u.flow.pc.toNat % 4 ≠ 0 ∨ u.ctl.intBlock = true ∨ u.ctl.stepPending = true ∨
      (u.ctl.ieOld = none ∧ u.mode.getLsbD 13 = false) ∨
      (∀ p : Fin 8, u.res.ioip.getLsbD p.val = true → ∃ q : Fin 8, q ≤ p ∧ u.res.ioius.getLsbD q.val = true)) →
    (recognize u).1 = none) ∧
  ∀ (s u : State) (g : Word) (p : Fin 8),
    s.plat.stuck = false → s.flow.grp = some g → (takeInput s).1.reset = none →
    u = samplePins (takeInput s).1.samples (takeInput s).2 → s.ctl.pending = [] →
    s.flow.pc.toNat % 4 = 0 → s.ctl.intBlock = false → s.ctl.stepPending = false → s.ctl.ieOld = none →
    s.mode.getLsbD 13 = true → u.res.ioip.getLsbD p.val = true →
    (∀ q : Fin 8, q < p → u.res.ioip.getLsbD q.val = false) →
    (∀ q : Fin 8, q ≤ p → u.res.ioius.getLsbD q.val = false) →
    s.busQuiet → s.osWithin → s.ls.cells.length < 15 →
    step s = .next ((((((beginInstr u).setRes { u.res with
          ioip := u.res.ioip &&& ~~~(1#8 <<< p.val), ioius := u.res.ioius ||| (1#8 <<< p.val) }).localsGrown
        (s.flow.pc :: s.ls.cells)).blocked).enteredAt (interruptVector p)))

/-- The interrupt controller, one update with the sample `S`: an input that is enabled and pending or under service
follows its pin, any other keeps a zero; then an enabled input that is low and not under service becomes pending (that
order inside one clock is the spec's construction). How many updates come before an instruction is open (D12: no proof
may depend on the number); the model makes one for each sample listed, or one more with the last level (log 6). -/
def Obligations.InputSampling : Prop :=
  (∀ (s : State) (S : Byte) (i : Fin 8),
    (intcTick s S).res.ioin.getLsbD i.val =
      (if s.res.ioie.getLsbD i.val = true ∧ (s.res.ioip.getLsbD i.val = true ∨ s.res.ioius.getLsbD i.val = true) then
        S.getLsbD i.val else s.res.ioin.getLsbD i.val && S.getLsbD i.val) ∧
    (intcTick s S).res.ioip.getLsbD i.val =
      (s.res.ioip.getLsbD i.val || (s.res.ioie.getLsbD i.val && !s.res.ioius.getLsbD i.val &&
        !(intcTick s S).res.ioin.getLsbD i.val))) ∧
  (∀ (s : State) (S : Byte), ∃ n p : Byte,
    intcTick s S = (s.setRes { s.res with ioin := n, ioip := p }).setPlat { s.plat with pins := S }) ∧
  ∀ (s : State) (S : Byte) (more : List Byte),
    samplePins [] s = intcTick s s.plat.pins ∧ samplePins [S] s = intcTick s S ∧
    (more ≠ [] → samplePins (S :: more) s = samplePins more (intcTick s S))

/-! Whole-machine rules. -/

/-- Who writes what, an instruction taken before its Normalize: `pop gi` alone writes a global register, and only its own
(R36); memory changes only under the stores (R340 to R346) and the two instructions that spill (R362, R363), since only
stores and spills write it (R83); the input and output registers, the enables and `mspwe` change only under `sto []` and
`sto.i []`, and `ioius` also under `reti`. -/
def Obligations.OnlyWriters : Prop :=
  ∀ (i : Instr) (s t : State), exec i s = .next t →
    (∀ k : Fin 16, t.g[k] = if i = .popG k then cell 0 s else s.g[k]) ∧
    (writesMemory i = false → t.mem = s.mem) ∧
    (writesResource i = false → t.res.ioin = s.res.ioin ∧ t.res.ioip = s.res.ioip ∧ t.res.ioout = s.res.ioout ∧
      t.res.ioie = s.res.ioie ∧ t.res.mspwe = s.res.mspwe ∧ (i ≠ .reti → t.res.ioius = s.res.ioius))

/-- The bits of `mode` under an instruction, before its Normalize: carry is written only by the instructions of R41,
`interrupt_en` only by `ei`, `di` and `pop mode`, the GRS extension only by `writesGrs`, a boundary bit only by
`writesBoundary`. But for `pop mode`: no instruction clears an exception signal (that one is sticky is the spec's
decision D27), each sets only the signals of `maySignal`, and `mflt_write` changes only with a memory fault; the trap
enables, the precision, the rounding mode and `power_fail` stay. -/
def Obligations.ModeWriters : Prop :=
  ∀ (i : Instr) (s t : State), exec i s = .next t →
    (writesCarry i = false → t.mode.getLsbD 15 = s.mode.getLsbD 15) ∧
    (writesEnable i = false → t.mode.getLsbD 13 = s.mode.getLsbD 13) ∧
    (writesGrs i = false → ∀ k : Nat, k ∈ [28, 29, 30] → t.mode.getLsbD k = s.mode.getLsbD k) ∧
    (writesBoundary .os i = false → t.mode.getLsbD 20 = s.mode.getLsbD 20) ∧
    (writesBoundary .ls i = false → t.mode.getLsbD 25 = s.mode.getLsbD 25) ∧
    (i ≠ .popMode →
      (∀ k : Nat, k ∈ signalBits → s.mode.getLsbD k = true → t.mode.getLsbD k = true) ∧
      (∀ k : Nat, k ∈ signalBits → k ∉ maySignal i → t.mode.getLsbD k = s.mode.getLsbD k) ∧
      (t.mode.getLsbD 31 = s.mode.getLsbD 31 ∨ (t.mode.getLsbD 26 = true ∧ t.res.mfltLatched = true)) ∧
      ∀ k : Nat, k ∈ [0, 1, 2, 3, 5, 7, 9, 11, 14, 17, 19, 22, 24, 27] → t.mode.getLsbD k = s.mode.getLsbD k)
end

