-- ==== Sys2Proof/Laws/Memory.lean ====
section
/-! SUPPORT. Read after write, and the canonical form of memory. -/

namespace Sys2Proof.Machine.Memory

/-- The canonical form, as a proposition. -/
theorem wf_cons (c : Host.Cell) (m : List Host.Cell) :
    wf (c :: m) = true ↔
      c.1 < 2 ^ 32 ∧ c.2 ≠ unwritten ∧ (∀ d ∈ m, c.1 < d.1) ∧ wf m = true := by
  simp [wf, and_assoc]

/-- An address below every listed one is unwritten. -/
theorem readByte_below {m : List Host.Cell} {a : Nat} (h : ∀ d ∈ m, a < d.1) : readByte m a = unwritten := by
  induction m with
  | nil => rfl
  | cons c rest ih =>
    have h1 := h c (by simp)
    have : ¬ c.1 = a := by omega
    simp [readByte, this, ih fun d hd => h d (by simp [hd])]

/-- What a write adds is at the written address. -/
theorem mem_writeByte {m : List Host.Cell} {a : Nat} {v : Byte} {d : Host.Cell} (h : d ∈ writeByte m a v) :
    d ∈ m ∨ (d = (a, v) ∧ v ≠ unwritten) := by
  induction m with
  | nil => by_cases hv : v = unwritten <;> simp_all [writeByte]
  | cons c rest ih =>
    unfold writeByte at h
    split at h
    · split at h <;> (simp_all; try tauto)
    · split at h
      · split at h <;> (simp_all; try tauto)
      · rcases List.mem_cons.1 h with rfl | h
        · simp
        · rcases ih h with h | h <;> simp [h]

/-- A write keeps the canonical form. -/
theorem writeByte_wf {m : List Host.Cell} {a : Nat} {v : Byte} (hm : wf m = true) (ha : a < 2 ^ 32) :
    wf (writeByte m a v) = true := by
  induction m with
  | nil => by_cases hv : v = unwritten <;> simp_all [writeByte, wf]
  | cons c rest ih =>
    obtain ⟨h1, h2, h3, h4⟩ := (wf_cons c rest).1 hm
    unfold writeByte
    split
    · rename_i hlt
      split
      · exact hm
      · rename_i hv
        refine (wf_cons _ _).2 ⟨ha, hv, fun d hd => ?_, hm⟩
        rcases List.mem_cons.1 hd with rfl | hd
        · exact hlt
        · exact hlt.trans (h3 d hd)
    · split
      · rename_i heq
        split
        · exact h4
        · rename_i hv
          exact (wf_cons _ _).2 ⟨ha, hv, fun d hd => heq ▸ h3 d hd, h4⟩
      · rename_i hnlt hne
        refine (wf_cons _ _).2 ⟨h1, h2, fun d hd => ?_, ih h4⟩
        rcases mem_writeByte hd with hd | ⟨rfl, -⟩
        · exact h3 d hd
        · simp only; omega

/-- Read after write of one byte, in a canonical memory. -/
theorem readByte_writeByte {m : List Host.Cell} {a : Nat} {v : Byte} (hm : wf m = true) (b : Nat) :
    readByte (writeByte m a v) b = if b = a then v else readByte m b := by
  induction m with
  | nil =>
    by_cases hv : v = unwritten
    · subst hv; simp [writeByte, readByte]
    · by_cases hb : b = a
      · subst hb; simp [writeByte, hv, readByte]
      · have : ¬ a = b := fun h => hb h.symm
        simp [writeByte, hv, readByte, hb, this]
  | cons c rest ih =>
    obtain ⟨-, -, h3, h4⟩ := (wf_cons c rest).1 hm
    unfold writeByte
    split
    · rename_i hlt
      split
      · rename_i hv
        by_cases hb : b = a
        · subst hb
          rw [if_pos rfl, hv]
          apply readByte_below
          intro d hd
          rcases List.mem_cons.1 hd with rfl | hd
          · exact hlt
          · exact hlt.trans (h3 d hd)
        · rw [if_neg hb]
      · by_cases hb : b = a
        · subst hb; simp [readByte]
        · have : ¬ a = b := fun h => hb h.symm
          simp [readByte, hb, this]
    · split
      · rename_i hnlt heq
        split
        · rename_i hv
          by_cases hb : b = a
          · subst hb
            rw [if_pos rfl, hv]
            exact readByte_below fun d hd => heq ▸ h3 d hd
          · have : ¬ c.1 = b := fun h => hb (by rw [heq, h])
            simp [readByte, hb, this]
        · by_cases hb : b = a
          · subst hb; simp [readByte]
          · have h5 : ¬ a = b := fun h => hb h.symm
            have h6 : ¬ c.1 = b := fun h => hb (by rw [heq, h])
            simp [readByte, hb, h5, h6]
      · rename_i hnlt hne
        by_cases hc : c.1 = b
        · have : ¬ b = a := fun h => hne (by rw [← h, hc])
          simp [readByte, hc, this]
        · simp [readByte, hc, ih h4]

/-- The address of a cell is a multiple of 4. -/
theorem cellAddress_toNat (a : Word) : (cellAddress a).toNat = 4 * (a.toNat / 4) := by
  have h : cellAddress a = (a >>> 2) <<< 2 := by
    unfold cellAddress; ext i hi; simp; interval_cases i <;> simp
  rw [h, BitVec.toNat_shiftLeft, BitVec.toNat_ushiftRight, Nat.shiftRight_eq_div_pow, Nat.shiftLeft_eq]
  have := a.isLt
  omega

theorem cellAddress_lt (a : Word) : (cellAddress a).toNat + 3 < 2 ^ 32 := by
  rw [cellAddress_toNat]; have := a.isLt; omega

@[simp] theorem cellAddress_cellAddress (a : Word) : cellAddress (cellAddress a) = cellAddress a := by
  simp [cellAddress, BitVec.and_assoc]

/-- A cell write keeps the canonical form. -/
theorem writeCell_wf {m : List Host.Cell} (a v : Word) (hm : wf m = true) : wf (writeCell m a v) = true := by
  have := cellAddress_lt a
  unfold writeCell
  exact writeByte_wf (writeByte_wf (writeByte_wf (writeByte_wf hm (by omega)) (by omega)) (by omega)) (by omega)

/-- Every byte after a cell write: the four bytes of the cell are those of `v`, every other byte is as before
(20_memory.md R87). -/
theorem readByte_writeCell {m : List Host.Cell} (a v : Word) (hm : wf m = true) (b : Nat) :
    readByte (writeCell m a v) b =
      if b = (cellAddress a).toNat + 3 then byteOfCell v 3
      else if b = (cellAddress a).toNat + 2 then byteOfCell v 2
      else if b = (cellAddress a).toNat + 1 then byteOfCell v 1
      else if b = (cellAddress a).toNat then byteOfCell v 0
      else readByte m b := by
  have := cellAddress_lt a
  have h0 : wf (writeByte m (cellAddress a).toNat (byteOfCell v 0)) = true := writeByte_wf hm (by omega)
  have h1 := writeByte_wf (a := (cellAddress a).toNat + 1) (v := byteOfCell v 1) h0 (by omega)
  have h2 := writeByte_wf (a := (cellAddress a).toNat + 2) (v := byteOfCell v 2) h1 (by omega)
  simp only [writeCell]
  rw [readByte_writeByte h2, readByte_writeByte h1, readByte_writeByte h0, readByte_writeByte hm]

/-- A byte outside the written cell is as before. -/
theorem readByte_writeCell_other {m : List Host.Cell} (a v : Word) (hm : wf m = true) {b : Nat}
    (h : b < (cellAddress a).toNat ∨ (cellAddress a).toNat + 3 < b) :
    readByte (writeCell m a v) b = readByte m b := by
  rw [readByte_writeCell a v hm]
  repeat rw [if_neg (by omega)]

/-- The four bytes of a cell make the cell. -/
theorem bytes_of_cell (v : Word) :
    (byteOfCell v 0 ++ byteOfCell v 1 ++ byteOfCell v 2 ++ byteOfCell v 3 : BitVec 32) = v := by
  apply BitVec.eq_of_getLsbD_eq
  intro i hi
  simp only [byteOfCell, BitVec.getLsbD_append, BitVec.getLsbD_extractLsb']
  interval_cases i <;> simp

/-- Reading the cell just written gives the value written. -/
theorem readCell_writeCell {m : List Host.Cell} (a v : Word) (hm : wf m = true) :
    readCell (writeCell m a v) a = v := by
  simp only [readCell, readByte_writeCell a v hm]
  simpa using bytes_of_cell v

end Sys2Proof.Machine.Memory
end

