-- ==== Sys2Proof/Laws/State.lean ====
section
/-! SUPPORT. What each named update of the state does to each field. -/

namespace Sys2Proof.Machine

variable (s : State)

@[simp] theorem setFlow_flow (v : Flow) : (s.setFlow v).flow = v := rfl
@[simp] theorem setFlow_os (v : Flow) : (s.setFlow v).os = s.os := rfl
@[simp] theorem setFlow_ls (v : Flow) : (s.setFlow v).ls = s.ls := rfl
@[simp] theorem setFlow_g (v : Flow) : (s.setFlow v).g = s.g := rfl
@[simp] theorem setFlow_x (v : Flow) : (s.setFlow v).x = s.x := rfl
@[simp] theorem setFlow_ct (v : Flow) : (s.setFlow v).ct = s.ct := rfl
@[simp] theorem setFlow_mode (v : Flow) : (s.setFlow v).mode = s.mode := rfl
@[simp] theorem setFlow_res (v : Flow) : (s.setFlow v).res = s.res := rfl
@[simp] theorem setFlow_ctl (v : Flow) : (s.setFlow v).ctl = s.ctl := rfl
@[simp] theorem setFlow_plat (v : Flow) : (s.setFlow v).plat = s.plat := rfl
@[simp] theorem setFlow_mem (v : Flow) : (s.setFlow v).mem = s.mem := rfl
@[simp] theorem setFlow_free (v : Flow) : (s.setFlow v).free = s.free := rfl
@[simp] theorem setFlow_setFlow (v w : Flow) : (s.setFlow v).setFlow w = s.setFlow w := rfl
@[simp] theorem setFlow_self : s.setFlow s.flow = s := rfl

@[simp] theorem setOs_flow (v : Stack) : (s.setOs v).flow = s.flow := rfl
@[simp] theorem setOs_os (v : Stack) : (s.setOs v).os = v := rfl
@[simp] theorem setOs_ls (v : Stack) : (s.setOs v).ls = s.ls := rfl
@[simp] theorem setOs_g (v : Stack) : (s.setOs v).g = s.g := rfl
@[simp] theorem setOs_x (v : Stack) : (s.setOs v).x = s.x := rfl
@[simp] theorem setOs_ct (v : Stack) : (s.setOs v).ct = s.ct := rfl
@[simp] theorem setOs_mode (v : Stack) : (s.setOs v).mode = s.mode := rfl
@[simp] theorem setOs_res (v : Stack) : (s.setOs v).res = s.res := rfl
@[simp] theorem setOs_ctl (v : Stack) : (s.setOs v).ctl = s.ctl := rfl
@[simp] theorem setOs_plat (v : Stack) : (s.setOs v).plat = s.plat := rfl
@[simp] theorem setOs_mem (v : Stack) : (s.setOs v).mem = s.mem := rfl
@[simp] theorem setOs_free (v : Stack) : (s.setOs v).free = s.free := rfl
@[simp] theorem setOs_setOs (v w : Stack) : (s.setOs v).setOs w = s.setOs w := rfl
@[simp] theorem setOs_self : s.setOs s.os = s := rfl

@[simp] theorem setLs_flow (v : Stack) : (s.setLs v).flow = s.flow := rfl
@[simp] theorem setLs_os (v : Stack) : (s.setLs v).os = s.os := rfl
@[simp] theorem setLs_ls (v : Stack) : (s.setLs v).ls = v := rfl
@[simp] theorem setLs_g (v : Stack) : (s.setLs v).g = s.g := rfl
@[simp] theorem setLs_x (v : Stack) : (s.setLs v).x = s.x := rfl
@[simp] theorem setLs_ct (v : Stack) : (s.setLs v).ct = s.ct := rfl
@[simp] theorem setLs_mode (v : Stack) : (s.setLs v).mode = s.mode := rfl
@[simp] theorem setLs_res (v : Stack) : (s.setLs v).res = s.res := rfl
@[simp] theorem setLs_ctl (v : Stack) : (s.setLs v).ctl = s.ctl := rfl
@[simp] theorem setLs_plat (v : Stack) : (s.setLs v).plat = s.plat := rfl
@[simp] theorem setLs_mem (v : Stack) : (s.setLs v).mem = s.mem := rfl
@[simp] theorem setLs_free (v : Stack) : (s.setLs v).free = s.free := rfl
@[simp] theorem setLs_setLs (v w : Stack) : (s.setLs v).setLs w = s.setLs w := rfl
@[simp] theorem setLs_self : s.setLs s.ls = s := rfl

@[simp] theorem setG_flow (v : Vector Word 16) : (s.setG v).flow = s.flow := rfl
@[simp] theorem setG_os (v : Vector Word 16) : (s.setG v).os = s.os := rfl
@[simp] theorem setG_ls (v : Vector Word 16) : (s.setG v).ls = s.ls := rfl
@[simp] theorem setG_g (v : Vector Word 16) : (s.setG v).g = v := rfl
@[simp] theorem setG_x (v : Vector Word 16) : (s.setG v).x = s.x := rfl
@[simp] theorem setG_ct (v : Vector Word 16) : (s.setG v).ct = s.ct := rfl
@[simp] theorem setG_mode (v : Vector Word 16) : (s.setG v).mode = s.mode := rfl
@[simp] theorem setG_res (v : Vector Word 16) : (s.setG v).res = s.res := rfl
@[simp] theorem setG_ctl (v : Vector Word 16) : (s.setG v).ctl = s.ctl := rfl
@[simp] theorem setG_plat (v : Vector Word 16) : (s.setG v).plat = s.plat := rfl
@[simp] theorem setG_mem (v : Vector Word 16) : (s.setG v).mem = s.mem := rfl
@[simp] theorem setG_free (v : Vector Word 16) : (s.setG v).free = s.free := rfl
@[simp] theorem setG_setG (v w : Vector Word 16) : (s.setG v).setG w = s.setG w := rfl
@[simp] theorem setG_self : s.setG s.g = s := rfl

@[simp] theorem setX_flow (v : Word) : (s.setX v).flow = s.flow := rfl
@[simp] theorem setX_os (v : Word) : (s.setX v).os = s.os := rfl
@[simp] theorem setX_ls (v : Word) : (s.setX v).ls = s.ls := rfl
@[simp] theorem setX_g (v : Word) : (s.setX v).g = s.g := rfl
@[simp] theorem setX_x (v : Word) : (s.setX v).x = v := rfl
@[simp] theorem setX_ct (v : Word) : (s.setX v).ct = s.ct := rfl
@[simp] theorem setX_mode (v : Word) : (s.setX v).mode = s.mode := rfl
@[simp] theorem setX_res (v : Word) : (s.setX v).res = s.res := rfl
@[simp] theorem setX_ctl (v : Word) : (s.setX v).ctl = s.ctl := rfl
@[simp] theorem setX_plat (v : Word) : (s.setX v).plat = s.plat := rfl
@[simp] theorem setX_mem (v : Word) : (s.setX v).mem = s.mem := rfl
@[simp] theorem setX_free (v : Word) : (s.setX v).free = s.free := rfl
@[simp] theorem setX_setX (v w : Word) : (s.setX v).setX w = s.setX w := rfl
@[simp] theorem setX_self : s.setX s.x = s := rfl

@[simp] theorem setCt_flow (v : Word) : (s.setCt v).flow = s.flow := rfl
@[simp] theorem setCt_os (v : Word) : (s.setCt v).os = s.os := rfl
@[simp] theorem setCt_ls (v : Word) : (s.setCt v).ls = s.ls := rfl
@[simp] theorem setCt_g (v : Word) : (s.setCt v).g = s.g := rfl
@[simp] theorem setCt_x (v : Word) : (s.setCt v).x = s.x := rfl
@[simp] theorem setCt_ct (v : Word) : (s.setCt v).ct = v := rfl
@[simp] theorem setCt_mode (v : Word) : (s.setCt v).mode = s.mode := rfl
@[simp] theorem setCt_res (v : Word) : (s.setCt v).res = s.res := rfl
@[simp] theorem setCt_ctl (v : Word) : (s.setCt v).ctl = s.ctl := rfl
@[simp] theorem setCt_plat (v : Word) : (s.setCt v).plat = s.plat := rfl
@[simp] theorem setCt_mem (v : Word) : (s.setCt v).mem = s.mem := rfl
@[simp] theorem setCt_free (v : Word) : (s.setCt v).free = s.free := rfl
@[simp] theorem setCt_setCt (v w : Word) : (s.setCt v).setCt w = s.setCt w := rfl
@[simp] theorem setCt_self : s.setCt s.ct = s := rfl

@[simp] theorem setMode_flow (v : Word) : (s.setMode v).flow = s.flow := rfl
@[simp] theorem setMode_os (v : Word) : (s.setMode v).os = s.os := rfl
@[simp] theorem setMode_ls (v : Word) : (s.setMode v).ls = s.ls := rfl
@[simp] theorem setMode_g (v : Word) : (s.setMode v).g = s.g := rfl
@[simp] theorem setMode_x (v : Word) : (s.setMode v).x = s.x := rfl
@[simp] theorem setMode_ct (v : Word) : (s.setMode v).ct = s.ct := rfl
@[simp] theorem setMode_mode (v : Word) : (s.setMode v).mode = v := rfl
@[simp] theorem setMode_res (v : Word) : (s.setMode v).res = s.res := rfl
@[simp] theorem setMode_ctl (v : Word) : (s.setMode v).ctl = s.ctl := rfl
@[simp] theorem setMode_plat (v : Word) : (s.setMode v).plat = s.plat := rfl
@[simp] theorem setMode_mem (v : Word) : (s.setMode v).mem = s.mem := rfl
@[simp] theorem setMode_free (v : Word) : (s.setMode v).free = s.free := rfl
@[simp] theorem setMode_setMode (v w : Word) : (s.setMode v).setMode w = s.setMode w := rfl
@[simp] theorem setMode_self : s.setMode s.mode = s := rfl

@[simp] theorem setRes_flow (v : Resources) : (s.setRes v).flow = s.flow := rfl
@[simp] theorem setRes_os (v : Resources) : (s.setRes v).os = s.os := rfl
@[simp] theorem setRes_ls (v : Resources) : (s.setRes v).ls = s.ls := rfl
@[simp] theorem setRes_g (v : Resources) : (s.setRes v).g = s.g := rfl
@[simp] theorem setRes_x (v : Resources) : (s.setRes v).x = s.x := rfl
@[simp] theorem setRes_ct (v : Resources) : (s.setRes v).ct = s.ct := rfl
@[simp] theorem setRes_mode (v : Resources) : (s.setRes v).mode = s.mode := rfl
@[simp] theorem setRes_res (v : Resources) : (s.setRes v).res = v := rfl
@[simp] theorem setRes_ctl (v : Resources) : (s.setRes v).ctl = s.ctl := rfl
@[simp] theorem setRes_plat (v : Resources) : (s.setRes v).plat = s.plat := rfl
@[simp] theorem setRes_mem (v : Resources) : (s.setRes v).mem = s.mem := rfl
@[simp] theorem setRes_free (v : Resources) : (s.setRes v).free = s.free := rfl
@[simp] theorem setRes_setRes (v w : Resources) : (s.setRes v).setRes w = s.setRes w := rfl
@[simp] theorem setRes_self : s.setRes s.res = s := rfl

@[simp] theorem setCtl_flow (v : Control) : (s.setCtl v).flow = s.flow := rfl
@[simp] theorem setCtl_os (v : Control) : (s.setCtl v).os = s.os := rfl
@[simp] theorem setCtl_ls (v : Control) : (s.setCtl v).ls = s.ls := rfl
@[simp] theorem setCtl_g (v : Control) : (s.setCtl v).g = s.g := rfl
@[simp] theorem setCtl_x (v : Control) : (s.setCtl v).x = s.x := rfl
@[simp] theorem setCtl_ct (v : Control) : (s.setCtl v).ct = s.ct := rfl
@[simp] theorem setCtl_mode (v : Control) : (s.setCtl v).mode = s.mode := rfl
@[simp] theorem setCtl_res (v : Control) : (s.setCtl v).res = s.res := rfl
@[simp] theorem setCtl_ctl (v : Control) : (s.setCtl v).ctl = v := rfl
@[simp] theorem setCtl_plat (v : Control) : (s.setCtl v).plat = s.plat := rfl
@[simp] theorem setCtl_mem (v : Control) : (s.setCtl v).mem = s.mem := rfl
@[simp] theorem setCtl_free (v : Control) : (s.setCtl v).free = s.free := rfl
@[simp] theorem setCtl_setCtl (v w : Control) : (s.setCtl v).setCtl w = s.setCtl w := rfl
@[simp] theorem setCtl_self : s.setCtl s.ctl = s := rfl

@[simp] theorem setPlat_flow (v : Platform) : (s.setPlat v).flow = s.flow := rfl
@[simp] theorem setPlat_os (v : Platform) : (s.setPlat v).os = s.os := rfl
@[simp] theorem setPlat_ls (v : Platform) : (s.setPlat v).ls = s.ls := rfl
@[simp] theorem setPlat_g (v : Platform) : (s.setPlat v).g = s.g := rfl
@[simp] theorem setPlat_x (v : Platform) : (s.setPlat v).x = s.x := rfl
@[simp] theorem setPlat_ct (v : Platform) : (s.setPlat v).ct = s.ct := rfl
@[simp] theorem setPlat_mode (v : Platform) : (s.setPlat v).mode = s.mode := rfl
@[simp] theorem setPlat_res (v : Platform) : (s.setPlat v).res = s.res := rfl
@[simp] theorem setPlat_ctl (v : Platform) : (s.setPlat v).ctl = s.ctl := rfl
@[simp] theorem setPlat_plat (v : Platform) : (s.setPlat v).plat = v := rfl
@[simp] theorem setPlat_mem (v : Platform) : (s.setPlat v).mem = s.mem := rfl
@[simp] theorem setPlat_free (v : Platform) : (s.setPlat v).free = s.free := rfl
@[simp] theorem setPlat_setPlat (v w : Platform) : (s.setPlat v).setPlat w = s.setPlat w := rfl
@[simp] theorem setPlat_self : s.setPlat s.plat = s := rfl

@[simp] theorem setMem_flow (v : List Host.Cell) : (s.setMem v).flow = s.flow := rfl
@[simp] theorem setMem_os (v : List Host.Cell) : (s.setMem v).os = s.os := rfl
@[simp] theorem setMem_ls (v : List Host.Cell) : (s.setMem v).ls = s.ls := rfl
@[simp] theorem setMem_g (v : List Host.Cell) : (s.setMem v).g = s.g := rfl
@[simp] theorem setMem_x (v : List Host.Cell) : (s.setMem v).x = s.x := rfl
@[simp] theorem setMem_ct (v : List Host.Cell) : (s.setMem v).ct = s.ct := rfl
@[simp] theorem setMem_mode (v : List Host.Cell) : (s.setMem v).mode = s.mode := rfl
@[simp] theorem setMem_res (v : List Host.Cell) : (s.setMem v).res = s.res := rfl
@[simp] theorem setMem_ctl (v : List Host.Cell) : (s.setMem v).ctl = s.ctl := rfl
@[simp] theorem setMem_plat (v : List Host.Cell) : (s.setMem v).plat = s.plat := rfl
@[simp] theorem setMem_mem (v : List Host.Cell) : (s.setMem v).mem = v := rfl
@[simp] theorem setMem_free (v : List Host.Cell) : (s.setMem v).free = s.free := rfl
@[simp] theorem setMem_setMem (v w : List Host.Cell) : (s.setMem v).setMem w = s.setMem w := rfl
@[simp] theorem setMem_self : s.setMem s.mem = s := rfl

@[simp] theorem setFree_flow (v : Nat) : (s.setFree v).flow = s.flow := rfl
@[simp] theorem setFree_os (v : Nat) : (s.setFree v).os = s.os := rfl
@[simp] theorem setFree_ls (v : Nat) : (s.setFree v).ls = s.ls := rfl
@[simp] theorem setFree_g (v : Nat) : (s.setFree v).g = s.g := rfl
@[simp] theorem setFree_x (v : Nat) : (s.setFree v).x = s.x := rfl
@[simp] theorem setFree_ct (v : Nat) : (s.setFree v).ct = s.ct := rfl
@[simp] theorem setFree_mode (v : Nat) : (s.setFree v).mode = s.mode := rfl
@[simp] theorem setFree_res (v : Nat) : (s.setFree v).res = s.res := rfl
@[simp] theorem setFree_ctl (v : Nat) : (s.setFree v).ctl = s.ctl := rfl
@[simp] theorem setFree_plat (v : Nat) : (s.setFree v).plat = s.plat := rfl
@[simp] theorem setFree_mem (v : Nat) : (s.setFree v).mem = s.mem := rfl
@[simp] theorem setFree_free (v : Nat) : (s.setFree v).free = v := rfl
@[simp] theorem setFree_setFree (v w : Nat) : (s.setFree v).setFree w = s.setFree w := rfl
@[simp] theorem setFree_self : s.setFree s.free = s := rfl

@[simp] theorem andThen_next (f : State → Result) : andThen (.next s) f = f s := rfl
@[simp] theorem andThen_fault (e : Fault) (f : State → Result) : andThen (.fault e) f = .fault e := rfl
@[simp] theorem andThen_refused (r : Refusal) (f : State → Result) : andThen (.refused r) f = .refused r := rfl

/-- A composed operation answers a next state exactly when both parts do. -/
theorem andThen_eq_next {o : Result} {f : State → Result} {t : State} :
    andThen o f = .next t ↔ ∃ u, o = .next u ∧ f u = .next t := by
  cases o <;> simp

end Sys2Proof.Machine
end

