-- ==== Sys2Proof/Laws/Ops.lean ====
section
/-! SUPPORT. What the shared operations do, once each: which fields they leave, and what they answer. -/

namespace Sys2Proof.Machine

variable (s : State)

/-! Fields that an operation leaves as they are. -/

@[simp] theorem addPending_flow (t : Trap) : (addPending t s).flow = s.flow := by unfold addPending; split <;> rfl
@[simp] theorem addPending_os (t : Trap) : (addPending t s).os = s.os := by unfold addPending; split <;> rfl
@[simp] theorem addPending_ls (t : Trap) : (addPending t s).ls = s.ls := by unfold addPending; split <;> rfl
@[simp] theorem addPending_g (t : Trap) : (addPending t s).g = s.g := by unfold addPending; split <;> rfl
@[simp] theorem addPending_x (t : Trap) : (addPending t s).x = s.x := by unfold addPending; split <;> rfl
@[simp] theorem addPending_ct (t : Trap) : (addPending t s).ct = s.ct := by unfold addPending; split <;> rfl
@[simp] theorem addPending_mode (t : Trap) : (addPending t s).mode = s.mode := by unfold addPending; split <;> rfl
@[simp] theorem addPending_res (t : Trap) : (addPending t s).res = s.res := by unfold addPending; split <;> rfl
@[simp] theorem addPending_plat (t : Trap) : (addPending t s).plat = s.plat := by unfold addPending; split <;> rfl
@[simp] theorem addPending_mem (t : Trap) : (addPending t s).mem = s.mem := by unfold addPending; split <;> rfl
@[simp] theorem addPending_free (t : Trap) : (addPending t s).free = s.free := by unfold addPending; split <;> rfl
@[simp] theorem addPending_ctl_intBlock (t : Trap) : (addPending t s).ctl.intBlock = s.ctl.intBlock := by unfold addPending; split <;> rfl
@[simp] theorem addPending_ctl_ieOld (t : Trap) : (addPending t s).ctl.ieOld = s.ctl.ieOld := by unfold addPending; split <;> rfl
@[simp] theorem addPending_ctl_enOld (t : Trap) : (addPending t s).ctl.enOld = s.ctl.enOld := by unfold addPending; split <;> rfl
@[simp] theorem addPending_ctl_stepPending (t : Trap) : (addPending t s).ctl.stepPending = s.ctl.stepPending := by unfold addPending; split <;> rfl

@[simp] theorem signal_flow (t : Trap) : (signal t s).flow = s.flow := by unfold signal; split <;> (try split) <;> simp
@[simp] theorem signal_os (t : Trap) : (signal t s).os = s.os := by unfold signal; split <;> (try split) <;> simp
@[simp] theorem signal_ls (t : Trap) : (signal t s).ls = s.ls := by unfold signal; split <;> (try split) <;> simp
@[simp] theorem signal_g (t : Trap) : (signal t s).g = s.g := by unfold signal; split <;> (try split) <;> simp
@[simp] theorem signal_x (t : Trap) : (signal t s).x = s.x := by unfold signal; split <;> (try split) <;> simp
@[simp] theorem signal_ct (t : Trap) : (signal t s).ct = s.ct := by unfold signal; split <;> (try split) <;> simp
@[simp] theorem signal_res (t : Trap) : (signal t s).res = s.res := by unfold signal; split <;> (try split) <;> simp
@[simp] theorem signal_plat (t : Trap) : (signal t s).plat = s.plat := by unfold signal; split <;> (try split) <;> simp
@[simp] theorem signal_mem (t : Trap) : (signal t s).mem = s.mem := by unfold signal; split <;> (try split) <;> simp
@[simp] theorem signal_free (t : Trap) : (signal t s).free = s.free := by unfold signal; split <;> (try split) <;> simp
@[simp] theorem signal_ctl_intBlock (t : Trap) : (signal t s).ctl.intBlock = s.ctl.intBlock := by unfold signal; split <;> (try split) <;> simp
@[simp] theorem signal_ctl_ieOld (t : Trap) : (signal t s).ctl.ieOld = s.ctl.ieOld := by unfold signal; split <;> (try split) <;> simp
@[simp] theorem signal_ctl_enOld (t : Trap) : (signal t s).ctl.enOld = s.ctl.enOld := by unfold signal; split <;> (try split) <;> simp
@[simp] theorem signal_ctl_stepPending (t : Trap) : (signal t s).ctl.stepPending = s.ctl.stepPending := by unfold signal; split <;> (try split) <;> simp

@[simp] theorem signalWhen_flow (c : Bool) (t : Trap) : (signalWhen c t s).flow = s.flow := by unfold signalWhen; split <;> simp
@[simp] theorem signalWhen_os (c : Bool) (t : Trap) : (signalWhen c t s).os = s.os := by unfold signalWhen; split <;> simp
@[simp] theorem signalWhen_ls (c : Bool) (t : Trap) : (signalWhen c t s).ls = s.ls := by unfold signalWhen; split <;> simp
@[simp] theorem signalWhen_g (c : Bool) (t : Trap) : (signalWhen c t s).g = s.g := by unfold signalWhen; split <;> simp
@[simp] theorem signalWhen_x (c : Bool) (t : Trap) : (signalWhen c t s).x = s.x := by unfold signalWhen; split <;> simp
@[simp] theorem signalWhen_ct (c : Bool) (t : Trap) : (signalWhen c t s).ct = s.ct := by unfold signalWhen; split <;> simp
@[simp] theorem signalWhen_res (c : Bool) (t : Trap) : (signalWhen c t s).res = s.res := by unfold signalWhen; split <;> simp
@[simp] theorem signalWhen_plat (c : Bool) (t : Trap) : (signalWhen c t s).plat = s.plat := by unfold signalWhen; split <;> simp
@[simp] theorem signalWhen_mem (c : Bool) (t : Trap) : (signalWhen c t s).mem = s.mem := by unfold signalWhen; split <;> simp
@[simp] theorem signalWhen_free (c : Bool) (t : Trap) : (signalWhen c t s).free = s.free := by unfold signalWhen; split <;> simp
@[simp] theorem signalWhen_ctl_intBlock (c : Bool) (t : Trap) : (signalWhen c t s).ctl.intBlock = s.ctl.intBlock := by unfold signalWhen; split <;> simp
@[simp] theorem signalWhen_ctl_ieOld (c : Bool) (t : Trap) : (signalWhen c t s).ctl.ieOld = s.ctl.ieOld := by unfold signalWhen; split <;> simp
@[simp] theorem signalWhen_ctl_enOld (c : Bool) (t : Trap) : (signalWhen c t s).ctl.enOld = s.ctl.enOld := by unfold signalWhen; split <;> simp
@[simp] theorem signalWhen_ctl_stepPending (c : Bool) (t : Trap) : (signalWhen c t s).ctl.stepPending = s.ctl.stepPending := by unfold signalWhen; split <;> simp

@[simp] theorem memFault_flow (w : Bool) (a d : Word) : (memFault w a d s).flow = s.flow := by simp [memFault]
@[simp] theorem memFault_os (w : Bool) (a d : Word) : (memFault w a d s).os = s.os := by simp [memFault]
@[simp] theorem memFault_ls (w : Bool) (a d : Word) : (memFault w a d s).ls = s.ls := by simp [memFault]
@[simp] theorem memFault_g (w : Bool) (a d : Word) : (memFault w a d s).g = s.g := by simp [memFault]
@[simp] theorem memFault_x (w : Bool) (a d : Word) : (memFault w a d s).x = s.x := by simp [memFault]
@[simp] theorem memFault_ct (w : Bool) (a d : Word) : (memFault w a d s).ct = s.ct := by simp [memFault]
@[simp] theorem memFault_plat (w : Bool) (a d : Word) : (memFault w a d s).plat = s.plat := by simp [memFault]
@[simp] theorem memFault_mem (w : Bool) (a d : Word) : (memFault w a d s).mem = s.mem := by simp [memFault]
@[simp] theorem memFault_free (w : Bool) (a d : Word) : (memFault w a d s).free = s.free := by simp [memFault]
@[simp] theorem memFault_ctl_intBlock (w : Bool) (a d : Word) : (memFault w a d s).ctl.intBlock = s.ctl.intBlock := by simp [memFault]
@[simp] theorem memFault_ctl_ieOld (w : Bool) (a d : Word) : (memFault w a d s).ctl.ieOld = s.ctl.ieOld := by simp [memFault]
@[simp] theorem memFault_ctl_enOld (w : Bool) (a d : Word) : (memFault w a d s).ctl.enOld = s.ctl.enOld := by simp [memFault]
@[simp] theorem memFault_ctl_stepPending (w : Bool) (a d : Word) : (memFault w a d s).ctl.stepPending = s.ctl.stepPending := by simp [memFault]
@[simp] theorem memFault_res_ioin (w : Bool) (a d : Word) : (memFault w a d s).res.ioin = s.res.ioin := by simp [memFault]
@[simp] theorem memFault_res_ioip (w : Bool) (a d : Word) : (memFault w a d s).res.ioip = s.res.ioip := by simp [memFault]
@[simp] theorem memFault_res_ioius (w : Bool) (a d : Word) : (memFault w a d s).res.ioius = s.res.ioius := by simp [memFault]
@[simp] theorem memFault_res_ioout (w : Bool) (a d : Word) : (memFault w a d s).res.ioout = s.res.ioout := by simp [memFault]
@[simp] theorem memFault_res_ioie (w : Bool) (a d : Word) : (memFault w a d s).res.ioie = s.res.ioie := by simp [memFault]
@[simp] theorem memFault_res_mspwe (w : Bool) (a d : Word) : (memFault w a d s).res.mspwe = s.res.mspwe := by simp [memFault]

@[simp] theorem hang_flow : (hang s).flow = s.flow := by simp [hang]
@[simp] theorem hang_os : (hang s).os = s.os := by simp [hang]
@[simp] theorem hang_ls : (hang s).ls = s.ls := by simp [hang]
@[simp] theorem hang_g : (hang s).g = s.g := by simp [hang]
@[simp] theorem hang_x : (hang s).x = s.x := by simp [hang]
@[simp] theorem hang_ct : (hang s).ct = s.ct := by simp [hang]
@[simp] theorem hang_mode : (hang s).mode = s.mode := by simp [hang]
@[simp] theorem hang_res : (hang s).res = s.res := by simp [hang]
@[simp] theorem hang_ctl : (hang s).ctl = s.ctl := by simp [hang]
@[simp] theorem hang_mem : (hang s).mem = s.mem := by simp [hang]
@[simp] theorem hang_free : (hang s).free = s.free := by simp [hang]

@[simp] theorem finishPosted_flow : (finishPosted s).flow = s.flow := by unfold finishPosted; (repeat' split) <;> simp
@[simp] theorem finishPosted_os : (finishPosted s).os = s.os := by unfold finishPosted; (repeat' split) <;> simp
@[simp] theorem finishPosted_ls : (finishPosted s).ls = s.ls := by unfold finishPosted; (repeat' split) <;> simp
@[simp] theorem finishPosted_g : (finishPosted s).g = s.g := by unfold finishPosted; (repeat' split) <;> simp
@[simp] theorem finishPosted_x : (finishPosted s).x = s.x := by unfold finishPosted; (repeat' split) <;> simp
@[simp] theorem finishPosted_ct : (finishPosted s).ct = s.ct := by unfold finishPosted; (repeat' split) <;> simp
@[simp] theorem finishPosted_mem : (finishPosted s).mem = s.mem := by unfold finishPosted; (repeat' split) <;> simp
@[simp] theorem finishPosted_free : (finishPosted s).free = s.free := by unfold finishPosted; (repeat' split) <;> simp
@[simp] theorem finishPosted_ctl_intBlock : (finishPosted s).ctl.intBlock = s.ctl.intBlock := by unfold finishPosted; (repeat' split) <;> simp
@[simp] theorem finishPosted_ctl_ieOld : (finishPosted s).ctl.ieOld = s.ctl.ieOld := by unfold finishPosted; (repeat' split) <;> simp
@[simp] theorem finishPosted_ctl_enOld : (finishPosted s).ctl.enOld = s.ctl.enOld := by unfold finishPosted; (repeat' split) <;> simp
@[simp] theorem finishPosted_ctl_stepPending : (finishPosted s).ctl.stepPending = s.ctl.stepPending := by unfold finishPosted; (repeat' split) <;> simp
@[simp] theorem finishPosted_res_ioin : (finishPosted s).res.ioin = s.res.ioin := by unfold finishPosted; (repeat' split) <;> simp
@[simp] theorem finishPosted_res_ioip : (finishPosted s).res.ioip = s.res.ioip := by unfold finishPosted; (repeat' split) <;> simp
@[simp] theorem finishPosted_res_ioius : (finishPosted s).res.ioius = s.res.ioius := by unfold finishPosted; (repeat' split) <;> simp
@[simp] theorem finishPosted_res_ioout : (finishPosted s).res.ioout = s.res.ioout := by unfold finishPosted; (repeat' split) <;> simp
@[simp] theorem finishPosted_res_ioie : (finishPosted s).res.ioie = s.res.ioie := by unfold finishPosted; (repeat' split) <;> simp
@[simp] theorem finishPosted_res_mspwe : (finishPosted s).res.mspwe = s.res.mspwe := by unfold finishPosted; (repeat' split) <;> simp

@[simp] theorem busReady_flow : (busReady s).flow = s.flow := by simp [busReady]
@[simp] theorem busReady_os : (busReady s).os = s.os := by simp [busReady]
@[simp] theorem busReady_ls : (busReady s).ls = s.ls := by simp [busReady]
@[simp] theorem busReady_g : (busReady s).g = s.g := by simp [busReady]
@[simp] theorem busReady_x : (busReady s).x = s.x := by simp [busReady]
@[simp] theorem busReady_ct : (busReady s).ct = s.ct := by simp [busReady]
@[simp] theorem busReady_mem : (busReady s).mem = s.mem := by simp [busReady]
@[simp] theorem busReady_free : (busReady s).free = s.free := by simp [busReady]
@[simp] theorem busReady_ctl_intBlock : (busReady s).ctl.intBlock = s.ctl.intBlock := by simp [busReady]
@[simp] theorem busReady_ctl_ieOld : (busReady s).ctl.ieOld = s.ctl.ieOld := by simp [busReady]
@[simp] theorem busReady_ctl_enOld : (busReady s).ctl.enOld = s.ctl.enOld := by simp [busReady]
@[simp] theorem busReady_ctl_stepPending : (busReady s).ctl.stepPending = s.ctl.stepPending := by simp [busReady]
@[simp] theorem busReady_res_ioin : (busReady s).res.ioin = s.res.ioin := by simp [busReady]
@[simp] theorem busReady_res_ioip : (busReady s).res.ioip = s.res.ioip := by simp [busReady]
@[simp] theorem busReady_res_ioius : (busReady s).res.ioius = s.res.ioius := by simp [busReady]
@[simp] theorem busReady_res_ioout : (busReady s).res.ioout = s.res.ioout := by simp [busReady]
@[simp] theorem busReady_res_ioie : (busReady s).res.ioie = s.res.ioie := by simp [busReady]
@[simp] theorem busReady_res_mspwe : (busReady s).res.mspwe = s.res.mspwe := by simp [busReady]

@[simp] theorem useFree_flow (k : Nat) : (useFree k s).flow = s.flow := by simp [useFree]
@[simp] theorem useFree_os (k : Nat) : (useFree k s).os = s.os := by simp [useFree]
@[simp] theorem useFree_ls (k : Nat) : (useFree k s).ls = s.ls := by simp [useFree]
@[simp] theorem useFree_g (k : Nat) : (useFree k s).g = s.g := by simp [useFree]
@[simp] theorem useFree_x (k : Nat) : (useFree k s).x = s.x := by simp [useFree]
@[simp] theorem useFree_ct (k : Nat) : (useFree k s).ct = s.ct := by simp [useFree]
@[simp] theorem useFree_mode (k : Nat) : (useFree k s).mode = s.mode := by simp [useFree]
@[simp] theorem useFree_res (k : Nat) : (useFree k s).res = s.res := by simp [useFree]
@[simp] theorem useFree_ctl (k : Nat) : (useFree k s).ctl = s.ctl := by simp [useFree]
@[simp] theorem useFree_plat (k : Nat) : (useFree k s).plat = s.plat := by simp [useFree]
@[simp] theorem useFree_mem (k : Nat) : (useFree k s).mem = s.mem := by simp [useFree]

@[simp] theorem busRead_flow (a : Word) : ((busRead a s).2).flow = s.flow := by unfold busRead; simp only []; (repeat' split) <;> simp
@[simp] theorem busRead_os (a : Word) : ((busRead a s).2).os = s.os := by unfold busRead; simp only []; (repeat' split) <;> simp
@[simp] theorem busRead_ls (a : Word) : ((busRead a s).2).ls = s.ls := by unfold busRead; simp only []; (repeat' split) <;> simp
@[simp] theorem busRead_g (a : Word) : ((busRead a s).2).g = s.g := by unfold busRead; simp only []; (repeat' split) <;> simp
@[simp] theorem busRead_x (a : Word) : ((busRead a s).2).x = s.x := by unfold busRead; simp only []; (repeat' split) <;> simp
@[simp] theorem busRead_ct (a : Word) : ((busRead a s).2).ct = s.ct := by unfold busRead; simp only []; (repeat' split) <;> simp
@[simp] theorem busRead_mem (a : Word) : ((busRead a s).2).mem = s.mem := by unfold busRead; simp only []; (repeat' split) <;> simp
@[simp] theorem busRead_ctl_intBlock (a : Word) : ((busRead a s).2).ctl.intBlock = s.ctl.intBlock := by unfold busRead; simp only []; (repeat' split) <;> simp
@[simp] theorem busRead_ctl_ieOld (a : Word) : ((busRead a s).2).ctl.ieOld = s.ctl.ieOld := by unfold busRead; simp only []; (repeat' split) <;> simp
@[simp] theorem busRead_ctl_enOld (a : Word) : ((busRead a s).2).ctl.enOld = s.ctl.enOld := by unfold busRead; simp only []; (repeat' split) <;> simp
@[simp] theorem busRead_ctl_stepPending (a : Word) : ((busRead a s).2).ctl.stepPending = s.ctl.stepPending := by unfold busRead; simp only []; (repeat' split) <;> simp
@[simp] theorem busRead_res_ioin (a : Word) : ((busRead a s).2).res.ioin = s.res.ioin := by unfold busRead; simp only []; (repeat' split) <;> simp
@[simp] theorem busRead_res_ioip (a : Word) : ((busRead a s).2).res.ioip = s.res.ioip := by unfold busRead; simp only []; (repeat' split) <;> simp
@[simp] theorem busRead_res_ioius (a : Word) : ((busRead a s).2).res.ioius = s.res.ioius := by unfold busRead; simp only []; (repeat' split) <;> simp
@[simp] theorem busRead_res_ioout (a : Word) : ((busRead a s).2).res.ioout = s.res.ioout := by unfold busRead; simp only []; (repeat' split) <;> simp
@[simp] theorem busRead_res_ioie (a : Word) : ((busRead a s).2).res.ioie = s.res.ioie := by unfold busRead; simp only []; (repeat' split) <;> simp
@[simp] theorem busRead_res_mspwe (a : Word) : ((busRead a s).2).res.mspwe = s.res.mspwe := by unfold busRead; simp only []; (repeat' split) <;> simp

@[simp] theorem busWrite_flow (a v : Word) : (busWrite a v s).flow = s.flow := by unfold busWrite; simp only []; (repeat' split) <;> simp
@[simp] theorem busWrite_os (a v : Word) : (busWrite a v s).os = s.os := by unfold busWrite; simp only []; (repeat' split) <;> simp
@[simp] theorem busWrite_ls (a v : Word) : (busWrite a v s).ls = s.ls := by unfold busWrite; simp only []; (repeat' split) <;> simp
@[simp] theorem busWrite_g (a v : Word) : (busWrite a v s).g = s.g := by unfold busWrite; simp only []; (repeat' split) <;> simp
@[simp] theorem busWrite_x (a v : Word) : (busWrite a v s).x = s.x := by unfold busWrite; simp only []; (repeat' split) <;> simp
@[simp] theorem busWrite_ct (a v : Word) : (busWrite a v s).ct = s.ct := by unfold busWrite; simp only []; (repeat' split) <;> simp
@[simp] theorem busWrite_free (a v : Word) : (busWrite a v s).free = s.free := by unfold busWrite; simp only []; (repeat' split) <;> simp
@[simp] theorem busWrite_ctl_intBlock (a v : Word) : (busWrite a v s).ctl.intBlock = s.ctl.intBlock := by unfold busWrite; simp only []; (repeat' split) <;> simp
@[simp] theorem busWrite_ctl_ieOld (a v : Word) : (busWrite a v s).ctl.ieOld = s.ctl.ieOld := by unfold busWrite; simp only []; (repeat' split) <;> simp
@[simp] theorem busWrite_ctl_enOld (a v : Word) : (busWrite a v s).ctl.enOld = s.ctl.enOld := by unfold busWrite; simp only []; (repeat' split) <;> simp
@[simp] theorem busWrite_ctl_stepPending (a v : Word) : (busWrite a v s).ctl.stepPending = s.ctl.stepPending := by unfold busWrite; simp only []; (repeat' split) <;> simp
@[simp] theorem busWrite_res_ioin (a v : Word) : (busWrite a v s).res.ioin = s.res.ioin := by unfold busWrite; simp only []; (repeat' split) <;> simp
@[simp] theorem busWrite_res_ioip (a v : Word) : (busWrite a v s).res.ioip = s.res.ioip := by unfold busWrite; simp only []; (repeat' split) <;> simp
@[simp] theorem busWrite_res_ioius (a v : Word) : (busWrite a v s).res.ioius = s.res.ioius := by unfold busWrite; simp only []; (repeat' split) <;> simp
@[simp] theorem busWrite_res_ioout (a v : Word) : (busWrite a v s).res.ioout = s.res.ioout := by unfold busWrite; simp only []; (repeat' split) <;> simp
@[simp] theorem busWrite_res_ioie (a v : Word) : (busWrite a v s).res.ioie = s.res.ioie := by unfold busWrite; simp only []; (repeat' split) <;> simp
@[simp] theorem busWrite_res_mspwe (a v : Word) : (busWrite a v s).res.mspwe = s.res.mspwe := by unfold busWrite; simp only []; (repeat' split) <;> simp

@[simp] theorem setBoundary_flow (k : Stk) (b : Bool) : (setBoundary k b s).flow = s.flow := by simp [setBoundary]
@[simp] theorem setBoundary_os (k : Stk) (b : Bool) : (setBoundary k b s).os = s.os := by simp [setBoundary]
@[simp] theorem setBoundary_ls (k : Stk) (b : Bool) : (setBoundary k b s).ls = s.ls := by simp [setBoundary]
@[simp] theorem setBoundary_g (k : Stk) (b : Bool) : (setBoundary k b s).g = s.g := by simp [setBoundary]
@[simp] theorem setBoundary_x (k : Stk) (b : Bool) : (setBoundary k b s).x = s.x := by simp [setBoundary]
@[simp] theorem setBoundary_ct (k : Stk) (b : Bool) : (setBoundary k b s).ct = s.ct := by simp [setBoundary]
@[simp] theorem setBoundary_res (k : Stk) (b : Bool) : (setBoundary k b s).res = s.res := by simp [setBoundary]
@[simp] theorem setBoundary_ctl (k : Stk) (b : Bool) : (setBoundary k b s).ctl = s.ctl := by simp [setBoundary]
@[simp] theorem setBoundary_plat (k : Stk) (b : Bool) : (setBoundary k b s).plat = s.plat := by simp [setBoundary]
@[simp] theorem setBoundary_mem (k : Stk) (b : Bool) : (setBoundary k b s).mem = s.mem := by simp [setBoundary]
@[simp] theorem setBoundary_free (k : Stk) (b : Bool) : (setBoundary k b s).free = s.free := by simp [setBoundary]

@[simp] theorem checkPage_flow (k : Stk) (b : Bool) (a : Word) : (checkPage k b a s).flow = s.flow := by unfold checkPage; simp only []; (repeat' split) <;> simp
@[simp] theorem checkPage_os (k : Stk) (b : Bool) (a : Word) : (checkPage k b a s).os = s.os := by unfold checkPage; simp only []; (repeat' split) <;> simp
@[simp] theorem checkPage_ls (k : Stk) (b : Bool) (a : Word) : (checkPage k b a s).ls = s.ls := by unfold checkPage; simp only []; (repeat' split) <;> simp
@[simp] theorem checkPage_g (k : Stk) (b : Bool) (a : Word) : (checkPage k b a s).g = s.g := by unfold checkPage; simp only []; (repeat' split) <;> simp
@[simp] theorem checkPage_x (k : Stk) (b : Bool) (a : Word) : (checkPage k b a s).x = s.x := by unfold checkPage; simp only []; (repeat' split) <;> simp
@[simp] theorem checkPage_ct (k : Stk) (b : Bool) (a : Word) : (checkPage k b a s).ct = s.ct := by unfold checkPage; simp only []; (repeat' split) <;> simp
@[simp] theorem checkPage_res (k : Stk) (b : Bool) (a : Word) : (checkPage k b a s).res = s.res := by unfold checkPage; simp only []; (repeat' split) <;> simp
@[simp] theorem checkPage_plat (k : Stk) (b : Bool) (a : Word) : (checkPage k b a s).plat = s.plat := by unfold checkPage; simp only []; (repeat' split) <;> simp
@[simp] theorem checkPage_mem (k : Stk) (b : Bool) (a : Word) : (checkPage k b a s).mem = s.mem := by unfold checkPage; simp only []; (repeat' split) <;> simp
@[simp] theorem checkPage_free (k : Stk) (b : Bool) (a : Word) : (checkPage k b a s).free = s.free := by unfold checkPage; simp only []; (repeat' split) <;> simp
@[simp] theorem checkPage_ctl_intBlock (k : Stk) (b : Bool) (a : Word) : (checkPage k b a s).ctl.intBlock = s.ctl.intBlock := by unfold checkPage; simp only []; (repeat' split) <;> simp
@[simp] theorem checkPage_ctl_ieOld (k : Stk) (b : Bool) (a : Word) : (checkPage k b a s).ctl.ieOld = s.ctl.ieOld := by unfold checkPage; simp only []; (repeat' split) <;> simp
@[simp] theorem checkPage_ctl_enOld (k : Stk) (b : Bool) (a : Word) : (checkPage k b a s).ctl.enOld = s.ctl.enOld := by unfold checkPage; simp only []; (repeat' split) <;> simp
@[simp] theorem checkPage_ctl_stepPending (k : Stk) (b : Bool) (a : Word) : (checkPage k b a s).ctl.stepPending = s.ctl.stepPending := by unfold checkPage; simp only []; (repeat' split) <;> simp

@[simp] theorem enterGroup_os (a : Word) : (enterGroup a s).os = s.os := by simp [enterGroup]
@[simp] theorem enterGroup_ls (a : Word) : (enterGroup a s).ls = s.ls := by simp [enterGroup]
@[simp] theorem enterGroup_g (a : Word) : (enterGroup a s).g = s.g := by simp [enterGroup]
@[simp] theorem enterGroup_x (a : Word) : (enterGroup a s).x = s.x := by simp [enterGroup]
@[simp] theorem enterGroup_ct (a : Word) : (enterGroup a s).ct = s.ct := by simp [enterGroup]
@[simp] theorem enterGroup_mem (a : Word) : (enterGroup a s).mem = s.mem := by simp [enterGroup]
@[simp] theorem enterGroup_ctl_intBlock (a : Word) : (enterGroup a s).ctl.intBlock = s.ctl.intBlock := by simp [enterGroup]
@[simp] theorem enterGroup_ctl_ieOld (a : Word) : (enterGroup a s).ctl.ieOld = s.ctl.ieOld := by simp [enterGroup]
@[simp] theorem enterGroup_ctl_enOld (a : Word) : (enterGroup a s).ctl.enOld = s.ctl.enOld := by simp [enterGroup]
@[simp] theorem enterGroup_ctl_stepPending (a : Word) : (enterGroup a s).ctl.stepPending = s.ctl.stepPending := by simp [enterGroup]
@[simp] theorem enterGroup_res_ioin (a : Word) : (enterGroup a s).res.ioin = s.res.ioin := by simp [enterGroup]
@[simp] theorem enterGroup_res_ioip (a : Word) : (enterGroup a s).res.ioip = s.res.ioip := by simp [enterGroup]
@[simp] theorem enterGroup_res_ioius (a : Word) : (enterGroup a s).res.ioius = s.res.ioius := by simp [enterGroup]
@[simp] theorem enterGroup_res_ioout (a : Word) : (enterGroup a s).res.ioout = s.res.ioout := by simp [enterGroup]
@[simp] theorem enterGroup_res_ioie (a : Word) : (enterGroup a s).res.ioie = s.res.ioie := by simp [enterGroup]
@[simp] theorem enterGroup_res_mspwe (a : Word) : (enterGroup a s).res.mspwe = s.res.mspwe := by simp [enterGroup]

@[simp] theorem advance_os : (advance s).os = s.os := by unfold advance; split <;> simp [nextGroup]
@[simp] theorem advance_ls : (advance s).ls = s.ls := by unfold advance; split <;> simp [nextGroup]
@[simp] theorem advance_g : (advance s).g = s.g := by unfold advance; split <;> simp [nextGroup]
@[simp] theorem advance_x : (advance s).x = s.x := by unfold advance; split <;> simp [nextGroup]
@[simp] theorem advance_ct : (advance s).ct = s.ct := by unfold advance; split <;> simp [nextGroup]
@[simp] theorem advance_mem : (advance s).mem = s.mem := by unfold advance; split <;> simp [nextGroup]
@[simp] theorem advance_ctl_intBlock : (advance s).ctl.intBlock = s.ctl.intBlock := by unfold advance; split <;> simp [nextGroup]
@[simp] theorem advance_ctl_ieOld : (advance s).ctl.ieOld = s.ctl.ieOld := by unfold advance; split <;> simp [nextGroup]
@[simp] theorem advance_ctl_enOld : (advance s).ctl.enOld = s.ctl.enOld := by unfold advance; split <;> simp [nextGroup]
@[simp] theorem advance_ctl_stepPending : (advance s).ctl.stepPending = s.ctl.stepPending := by unfold advance; split <;> simp [nextGroup]
@[simp] theorem advance_res_ioin : (advance s).res.ioin = s.res.ioin := by unfold advance; split <;> simp [nextGroup]
@[simp] theorem advance_res_ioip : (advance s).res.ioip = s.res.ioip := by unfold advance; split <;> simp [nextGroup]
@[simp] theorem advance_res_ioius : (advance s).res.ioius = s.res.ioius := by unfold advance; split <;> simp [nextGroup]
@[simp] theorem advance_res_ioout : (advance s).res.ioout = s.res.ioout := by unfold advance; split <;> simp [nextGroup]
@[simp] theorem advance_res_ioie : (advance s).res.ioie = s.res.ioie := by unfold advance; split <;> simp [nextGroup]
@[simp] theorem advance_res_mspwe : (advance s).res.mspwe = s.res.mspwe := by unfold advance; split <;> simp [nextGroup]

/-! What the operations answer. -/

/-- A bus on which nothing is in progress and about which the platform says nothing: every transfer completes without a
fault (log 5). -/
theorem busRead_quiet (a : Word) (hp : s.plat.posted = none) (hb : s.plat.bus = []) (hs : s.plat.stuck = false) :
    busRead a s = (Memory.readCell s.mem a, s) := by
  have h1 : finishPosted s = s := by simp [finishPosted, hp]
  have h2 : busReady s = s := by
    have : ({ s.plat with bus := s.plat.bus.tail } : Platform) = s.plat := by
      have : s.plat.bus.tail = s.plat.bus := by rw [hb]; rfl
      rw [this]
    simp [busReady, h1, this]
  simp [busRead, h1, h2, busAnswer, hb, plainAnswer, hs]

theorem enterGroup_quiet (a : Word) (hp : s.plat.posted = none) (hb : s.plat.bus = []) (hs : s.plat.stuck = false) :
    enterGroup a s = s.setFlow
      { pc := a, npc := Memory.cellAddress a + 4, grp := some (Memory.readCell s.mem a), bytelit := false } := by
  simp [enterGroup, busRead_quiet s a hp hb hs]

theorem enterGroup_flow (a : Word) :
    (enterGroup a s).flow =
      { pc := a, npc := Memory.cellAddress a + 4, grp := some (busRead a s).1, bytelit := false } := rfl

@[simp] theorem enterGroup_pc (a : Word) : (enterGroup a s).flow.pc = a := rfl

/-- A stack may not shrink before it is allocated (10_state.md R29, U3). -/
theorem replaceS_refused {k : Nat} {vs : List Word} (h : vs.length < k) (ha : s.os.active = false) :
    replaceS k vs s = .refused .unallocatedStack := by simp [replaceS, h, ha]

/-- Otherwise the cells are replaced. -/
theorem replaceS_next {k : Nat} {vs : List Word} (h : k ≤ vs.length ∨ s.os.active = true) :
    replaceS k vs s = .next (s.setOs { s.os with
      cells := vs ++ s.os.cells.drop k, active := s.os.active || decide (k < vs.length) }) := by
  have : ¬ (vs.length < k ∧ s.os.active = false) := by
    rcases h with h | h
    · omega
    · simp [h]
  simp [replaceS, this]

theorem replaceS_eq_next {k : Nat} {vs : List Word} {t : State} (h : replaceS k vs s = .next t) :
    (k ≤ vs.length ∨ s.os.active = true) ∧
      t = s.setOs { s.os with
        cells := vs ++ s.os.cells.drop k, active := s.os.active || decide (k < vs.length) } := by
  by_cases hc : k ≤ vs.length ∨ s.os.active = true
  · rw [replaceS_next s hc] at h
    exact ⟨hc, by simpa using h.symm⟩
  · have h1 : vs.length < k := by omega
    have h2 : s.os.active = false := by cases hs : s.os.active <;> simp_all
    rw [replaceS_refused s h1 h2] at h
    cases h

theorem stackResult_next {k : Nat} {vs : List Word} (h : k ≤ vs.length ∨ s.os.active = true) :
    stackResult k vs s = .next (advance (s.setOs { s.os with
      cells := vs ++ s.os.cells.drop k, active := s.os.active || decide (k < vs.length) })) := by
  simp [stackResult, replaceS_next s h]

theorem stackResult_refused {k : Nat} {vs : List Word} (h : vs.length < k) (ha : s.os.active = false) :
    stackResult k vs s = .refused .unallocatedStack := by
  simp [stackResult, replaceS_refused s h ha]

theorem stackResult_eq_next {k : Nat} {vs : List Word} {t : State} (h : stackResult k vs s = .next t) :
    (k ≤ vs.length ∨ s.os.active = true) ∧
      t = advance (s.setOs { s.os with
        cells := vs ++ s.os.cells.drop k, active := s.os.active || decide (k < vs.length) }) := by
  obtain ⟨u, h1, h2⟩ := andThen_eq_next.1 h
  obtain ⟨hc, rfl⟩ := replaceS_eq_next s h1
  exact ⟨hc, by simpa using h2.symm⟩

theorem popL_eq_next {f : Word → State → Result} {t : State} (h : popL s f = .next t) :
    s.ls.active = true ∧ f (topL s) (s.setLs { s.ls with cells := s.ls.cells.tail }) = .next t := by
  unfold popL at h
  cases ha : s.ls.active <;> simp_all

theorem transferTo_eq_next {a : Word} {t : State} (h : transferTo a s = .next t) : t = enterGroup a s := by
  unfold transferTo at h
  simp only [] at h
  split at h
  · cases h
  · simpa using h.symm

theorem memStore_eq_next {a v : Word} {t : State} (h : memStore a v s = .next t) :
    hitsPrefetch s.flow.npc a (busWrite a v s) = false ∧ t = busWrite a v s := by
  unfold memStore at h
  cases hh : hitsPrefetch s.flow.npc a (busWrite a v s) <;> simp_all

theorem spill_eq_next {npc : Word} {k : Stk} {t : State} (h : spill npc k s = .next t) :
    hitsPrefetch npc (stackOf k s).ptr (spillRaw k s) = false ∧ t = spillRaw k s := by
  unfold spill at h
  cases hh : hitsPrefetch npc (stackOf k s).ptr (spillRaw k s) <;> simp_all

/-- On a quiet bus the next transfer does not fault. -/
theorem readFaults_quiet (hp : s.plat.posted = none) (hb : s.plat.bus = []) : readFaults s = false := by
  have h1 : finishPosted s = s := by simp [finishPosted, hp]
  simp [readFaults, h1, busAnswer, hb, plainAnswer]

/-- A CPU that waits in a transfer makes no other one: a read does not touch it. -/
theorem busRead_stuck (a : Word) (hp : s.plat.posted = none) (hs : s.plat.stuck = true) :
    busRead a s = (freeVal 0 s, s) := by
  have h1 : finishPosted s = s := by simp [finishPosted, hp]
  simp [busRead, h1, hs]

/-- What a write leaves in memory: the cell written, or memory as before when the write is lost. -/
theorem busWrite_mem_cases (a v : Word) :
    (busWrite a v s).mem = s.mem ∨ (busWrite a v s).mem = Memory.writeCell s.mem a v := by
  unfold busWrite
  simp only []
  repeat' split
  all_goals simp

/-- A write keeps the canonical form of memory. -/
theorem busWrite_wf (a v : Word) (h : Memory.wf s.mem = true) : Memory.wf (busWrite a v s).mem = true := by
  rcases busWrite_mem_cases s a v with h1 | h1 <;> rw [h1]
  · exact h
  · exact Memory.writeCell_wf a v h

/-- Every property that each of the repeated operations keeps holds at the end. -/
theorem iter_induct {P : State → Prop} {f : State → State} (hf : ∀ u, P u → P (f u)) (n : Nat) (h : P s) :
    P (iter n f s) := by
  induction n generalizing s with
  | zero => exact h
  | succ k ih => exact ih _ (hf s h)

theorem iterO_induct {P : State → Prop} {f : State → Result} (hf : ∀ u v, P u → f u = .next v → P v) (n : Nat)
    (h : P s) {t : State} (ht : iterO n f s = .next t) : P t := by
  induction n generalizing s with
  | zero => simp only [iterO, Host.Outcome.next.injEq] at ht; exact ht ▸ h
  | succ k ih =>
    obtain ⟨u, h1, h2⟩ := andThen_eq_next.1 ht
    exact ih _ (hf s u h h1) h2

end Sys2Proof.Machine
end

