-- ==== Sys2Proof/Laws/PerInstr.lean ====
section
/-! SUPPORT. Facts about each instruction as syntax, one lemma per constructor. -/

namespace Sys2Proof.Laws

/-! The encoding of a well-formed instruction at its home byte decodes to it, an alias to its core instruction
(spec/30_encoding.md R120 to R131). -/

/-- What `RoundTrip` says of one instruction. -/
def RoundTrip.Statement (i : Instr) : Prop := i.wf = true → decode (encode i) i.homeByte = .ok i.core

/-- The five fixed bits of an OFFSET opcode, read where the encoder put them. -/
theorem placeOffset_top (op : BitVec 5) (o : Offset) (g : Word) :
    (groupByte (placeOffset op o g) o.position).extractLsb' 3 5 = op := by
  cases o <;> apply BitVec.eq_of_getLsbD_eq <;> intro k hk <;> interval_cases k <;>
    simp only [placeOffset, Offset.position, groupByte, BitVec.getLsbD_extractLsb', BitVec.getLsbD_append,
      show (1#2 = 0#2) = False by decide, show (2#2 = 0#2) = False by decide, show (2#2 = 1#2) = False by decide,
      show (3#2 = 0#2) = False by decide, show (3#2 = 1#2) = False by decide, show (3#2 = 2#2) = False by decide,
      BitVec.ofNat_eq_ofNat, if_true, if_false] <;> rfl

/-- The offset, read where the encoder put it. -/
theorem offsetAt_placeOffset (op : BitVec 5) (o : Offset) (g : Word) :
    offsetAt (placeOffset op o g) o.position = o := by
  have low {m n w : Nat} (x : BitVec m) (d : BitVec n) (h : m + n = w) :
      ((x ++ d).cast h).extractLsb' 0 n = d := by
    apply BitVec.eq_of_getLsbD_eq
    intro k hk
    simp [BitVec.getLsbD_append, hk]
  cases o with
  | w27 d => exact congrArg Offset.w27 (low op d rfl)
  | w19 d => exact congrArg Offset.w19 (low (g.extractLsb' 24 8 ++ op) d rfl)
  | w11 d => exact congrArg Offset.w11 (low (g.extractLsb' 16 16 ++ op) d rfl)
  | w3 d => exact congrArg Offset.w3 (low (g.extractLsb' 8 24 ++ op) d rfl)

theorem RoundTrip.brOffset (o : Offset) : RoundTrip.Statement (.brOffset o) := fun _ => by
  simp [encode, encodeAt, Instr.homeByte, decode, placeOffset_top, offsetAt_placeOffset, Instr.core]
theorem RoundTrip.callOffset (o : Offset) : RoundTrip.Statement (.callOffset o) := fun _ => by
  simp [encode, encodeAt, Instr.homeByte, decode, placeOffset_top, offsetAt_placeOffset, Instr.core]
theorem RoundTrip.bzOffset (o : Offset) : RoundTrip.Statement (.bzOffset o) := fun _ => by
  simp [encode, encodeAt, Instr.homeByte, decode, placeOffset_top, offsetAt_placeOffset, Instr.core]
theorem RoundTrip.dbrOffset (o : Offset) : RoundTrip.Statement (.dbrOffset o) := fun _ => by
  simp [encode, encodeAt, Instr.homeByte, decode, placeOffset_top, offsetAt_placeOffset, Instr.core]
theorem RoundTrip.pushN (n : BitVec 4) : RoundTrip.Statement (.pushN n) := by revert n; unfold RoundTrip.Statement; decide
theorem RoundTrip.skip : RoundTrip.Statement .skip := fun _ => rfl
theorem RoundTrip.skipc : RoundTrip.Statement .skipc := fun _ => rfl
theorem RoundTrip.skipn : RoundTrip.Statement .skipn := fun _ => rfl
theorem RoundTrip.skipnp : RoundTrip.Statement .skipnp := fun _ => rfl
theorem RoundTrip.skipz : RoundTrip.Statement .skipz := fun _ => rfl
theorem RoundTrip.step : RoundTrip.Statement .step := fun _ => rfl
theorem RoundTrip.skipnc : RoundTrip.Statement .skipnc := fun _ => rfl
theorem RoundTrip.skipnn : RoundTrip.Statement .skipnn := fun _ => rfl
theorem RoundTrip.skipp : RoundTrip.Statement .skipp := fun _ => rfl
theorem RoundTrip.skipnz : RoundTrip.Statement .skipnz := fun _ => rfl
theorem RoundTrip.mloop : RoundTrip.Statement .mloop := fun _ => rfl
theorem RoundTrip.mloopc : RoundTrip.Statement .mloopc := fun _ => rfl
theorem RoundTrip.mloopn : RoundTrip.Statement .mloopn := fun _ => rfl
theorem RoundTrip.mloopnp : RoundTrip.Statement .mloopnp := fun _ => rfl
theorem RoundTrip.mloopz : RoundTrip.Statement .mloopz := fun _ => rfl
theorem RoundTrip.bkpt : RoundTrip.Statement .bkpt := fun _ => rfl
theorem RoundTrip.mloopnc : RoundTrip.Statement .mloopnc := fun _ => rfl
theorem RoundTrip.mloopnn : RoundTrip.Statement .mloopnn := fun _ => rfl
theorem RoundTrip.mloopp : RoundTrip.Statement .mloopp := fun _ => rfl
theorem RoundTrip.mloopnz : RoundTrip.Statement .mloopnz := fun _ => rfl
theorem RoundTrip.ldS0 : RoundTrip.Statement .ldS0 := fun _ => rfl
theorem RoundTrip.ldX : RoundTrip.Statement .ldX := fun _ => rfl
theorem RoundTrip.ldR0 : RoundTrip.Statement .ldR0 := fun _ => rfl
theorem RoundTrip.unassigned43 : RoundTrip.Statement .unassigned43 := fun _ => rfl
theorem RoundTrip.ldDecR0 : RoundTrip.Statement .ldDecR0 := fun _ => rfl
theorem RoundTrip.scache : RoundTrip.Statement .scache := fun _ => rfl
theorem RoundTrip.ldR0Inc : RoundTrip.Statement .ldR0Inc := fun _ => rfl
theorem RoundTrip.unassigned47 : RoundTrip.Statement .unassigned47 := fun _ => rfl
theorem RoundTrip.ldB : RoundTrip.Statement .ldB := fun _ => rfl
theorem RoundTrip.ldXInc : RoundTrip.Statement .ldXInc := fun _ => rfl
theorem RoundTrip.ldDecX : RoundTrip.Statement .ldDecX := fun _ => rfl
theorem RoundTrip.brIndirect : RoundTrip.Statement .brIndirect := fun _ => rfl
theorem RoundTrip.ldW : RoundTrip.Statement .ldW := fun _ => rfl
theorem RoundTrip.lcache : RoundTrip.Statement .lcache := fun _ => rfl
theorem RoundTrip.callIndirect : RoundTrip.Statement .callIndirect := fun _ => rfl
theorem RoundTrip.pushL : RoundTrip.Statement .pushL := fun _ => rfl
theorem RoundTrip.popG (i : Fin 16) : RoundTrip.Statement (.popG i) := by revert i; unfold RoundTrip.Statement; decide
theorem RoundTrip.stS0 : RoundTrip.Statement .stS0 := fun _ => rfl
theorem RoundTrip.stX : RoundTrip.Statement .stX := fun _ => rfl
theorem RoundTrip.stR0 : RoundTrip.Statement .stR0 := fun _ => rfl
theorem RoundTrip.unassigned63 : RoundTrip.Statement .unassigned63 := fun _ => rfl
theorem RoundTrip.stDecR0 : RoundTrip.Statement .stDecR0 := fun _ => rfl
theorem RoundTrip.unassigned65 : RoundTrip.Statement .unassigned65 := fun _ => rfl
theorem RoundTrip.stR0Inc : RoundTrip.Statement .stR0Inc := fun _ => rfl
theorem RoundTrip.unassigned67 : RoundTrip.Statement .unassigned67 := fun _ => rfl
theorem RoundTrip.stDecX : RoundTrip.Statement .stDecX := fun _ => rfl
theorem RoundTrip.stXInc : RoundTrip.Statement .stXInc := fun _ => rfl
theorem RoundTrip.unassigned6A : RoundTrip.Statement .unassigned6A := fun _ => rfl
theorem RoundTrip.unassigned6B : RoundTrip.Statement .unassigned6B := fun _ => rfl
theorem RoundTrip.unassigned6C : RoundTrip.Statement .unassigned6C := fun _ => rfl
theorem RoundTrip.unassigned6D : RoundTrip.Statement .unassigned6D := fun _ => rfl
theorem RoundTrip.ret : RoundTrip.Statement .ret := fun _ => rfl
theorem RoundTrip.reti : RoundTrip.Statement .reti := fun _ => rfl
theorem RoundTrip.pushG (i : Fin 16) : RoundTrip.Statement (.pushG i) := by revert i; unfold RoundTrip.Statement; decide
theorem RoundTrip.pushR (i : Fin 16) : RoundTrip.Statement (.pushR i) := by revert i; unfold RoundTrip.Statement; decide
theorem RoundTrip.unassigned8F : RoundTrip.Statement .unassigned8F := fun _ => rfl
theorem RoundTrip.pushB (n : Byte) : RoundTrip.Statement (.pushB n) := by
  revert n; unfold RoundTrip.Statement; decide
theorem RoundTrip.pushMode : RoundTrip.Statement .pushMode := fun _ => rfl
theorem RoundTrip.pushDup : RoundTrip.Statement .pushDup := fun _ => rfl
theorem RoundTrip.pushS0 : RoundTrip.Statement .pushS0 := fun _ => rfl
theorem RoundTrip.pushS1 : RoundTrip.Statement .pushS1 := fun _ => rfl
theorem RoundTrip.pushCt : RoundTrip.Statement .pushCt := fun _ => rfl
theorem RoundTrip.sexw : RoundTrip.Statement .sexw := fun _ => rfl
theorem RoundTrip.ldo : RoundTrip.Statement .ldo := fun _ => rfl
theorem RoundTrip.ldoI : RoundTrip.Statement .ldoI := fun _ => rfl
theorem RoundTrip.pushX : RoundTrip.Statement .pushX := fun _ => rfl
theorem RoundTrip.split : RoundTrip.Statement .split := fun _ => rfl
theorem RoundTrip.pushLstack : RoundTrip.Statement .pushLstack := fun _ => rfl
theorem RoundTrip.ldepth : RoundTrip.Statement .ldepth := fun _ => rfl
theorem RoundTrip.pushSa : RoundTrip.Statement .pushSa := fun _ => rfl
theorem RoundTrip.pushLa : RoundTrip.Statement .pushLa := fun _ => rfl
theorem RoundTrip.pushS2 : RoundTrip.Statement .pushS2 := fun _ => rfl
theorem RoundTrip.sdepth : RoundTrip.Statement .sdepth := fun _ => rfl
theorem RoundTrip.popR (i : Fin 16) : RoundTrip.Statement (.popR i) := by revert i; unfold RoundTrip.Statement; decide
theorem RoundTrip.unassignedAF : RoundTrip.Statement .unassignedAF := fun _ => rfl
theorem RoundTrip.sto : RoundTrip.Statement .sto := fun _ => rfl
theorem RoundTrip.stoI : RoundTrip.Statement .stoI := fun _ => rfl
theorem RoundTrip.xcg : RoundTrip.Statement .xcg := fun _ => rfl
theorem RoundTrip.popDrop : RoundTrip.Statement .popDrop := fun _ => rfl
theorem RoundTrip.popCt : RoundTrip.Statement .popCt := fun _ => rfl
theorem RoundTrip.replexp : RoundTrip.Statement .replexp := fun _ => rfl
theorem RoundTrip.ei : RoundTrip.Statement .ei := fun _ => rfl
theorem RoundTrip.di : RoundTrip.Statement .di := fun _ => rfl
theorem RoundTrip.popX : RoundTrip.Statement .popX := fun _ => rfl
theorem RoundTrip.popMode : RoundTrip.Statement .popMode := fun _ => rfl
theorem RoundTrip.popLstack : RoundTrip.Statement .popLstack := fun _ => rfl
theorem RoundTrip.addPc : RoundTrip.Statement .addPc := fun _ => rfl
theorem RoundTrip.popSa : RoundTrip.Statement .popSa := fun _ => rfl
theorem RoundTrip.popLa : RoundTrip.Statement .popLa := fun _ => rfl
theorem RoundTrip.lframe : RoundTrip.Statement .lframe := fun _ => rfl
theorem RoundTrip.sframe : RoundTrip.Statement .sframe := fun _ => rfl
theorem RoundTrip.add : RoundTrip.Statement .add := fun _ => rfl
theorem RoundTrip.decCt : RoundTrip.Statement .decCt := fun _ => rfl
theorem RoundTrip.addc : RoundTrip.Statement .addc := fun _ => rfl
theorem RoundTrip.xor : RoundTrip.Statement .xor := fun _ => rfl
theorem RoundTrip.expdif : RoundTrip.Statement .expdif := fun _ => rfl
theorem RoundTrip.denorm : RoundTrip.Statement .denorm := fun _ => rfl
theorem RoundTrip.normr : RoundTrip.Statement .normr := fun _ => rfl
theorem RoundTrip.norml : RoundTrip.Statement .norml := fun _ => rfl
theorem RoundTrip.sub : RoundTrip.Statement .sub := fun _ => rfl
theorem RoundTrip.neg : RoundTrip.Statement .neg := fun _ => rfl
theorem RoundTrip.subb : RoundTrip.Statement .subb := fun _ => rfl
theorem RoundTrip.cmp : RoundTrip.Statement .cmp := fun _ => rfl
theorem RoundTrip.inc4 : RoundTrip.Statement .inc4 := fun _ => rfl
theorem RoundTrip.dec4 : RoundTrip.Statement .dec4 := fun _ => rfl
theorem RoundTrip.inc1 : RoundTrip.Statement .inc1 := fun _ => rfl
theorem RoundTrip.dec1 : RoundTrip.Statement .dec1 := fun _ => rfl
theorem RoundTrip.copyb : RoundTrip.Statement .copyb := fun _ => rfl
theorem RoundTrip.rnd : RoundTrip.Statement .rnd := fun _ => rfl
theorem RoundTrip.addexp : RoundTrip.Statement .addexp := fun _ => rfl
theorem RoundTrip.subexp : RoundTrip.Statement .subexp := fun _ => rfl
theorem RoundTrip.testexp : RoundTrip.Statement .testexp := fun _ => rfl
theorem RoundTrip.muls : RoundTrip.Statement .muls := fun _ => rfl
theorem RoundTrip.mulfs : RoundTrip.Statement .mulfs := fun _ => rfl
theorem RoundTrip.mulu : RoundTrip.Statement .mulu := fun _ => rfl
theorem RoundTrip.sexb : RoundTrip.Statement .sexb := fun _ => rfl
theorem RoundTrip.testb : RoundTrip.Statement .testb := fun _ => rfl
theorem RoundTrip.replb : RoundTrip.Statement .replb := fun _ => rfl
theorem RoundTrip.extexp : RoundTrip.Statement .extexp := fun _ => rfl
theorem RoundTrip.extsig : RoundTrip.Statement .extsig := fun _ => rfl
theorem RoundTrip.notc : RoundTrip.Statement .notc := fun _ => rfl
theorem RoundTrip.divu : RoundTrip.Statement .divu := fun _ => rfl
theorem RoundTrip.mxm : RoundTrip.Statement .mxm := fun _ => rfl
theorem RoundTrip.or : RoundTrip.Statement .or := fun _ => rfl
theorem RoundTrip.and : RoundTrip.Statement .and := fun _ => rfl
theorem RoundTrip.shl1 : RoundTrip.Statement .shl1 := fun _ => rfl
theorem RoundTrip.shr1 : RoundTrip.Statement .shr1 := fun _ => rfl
theorem RoundTrip.rev : RoundTrip.Statement .rev := fun _ => rfl
theorem RoundTrip.eqz : RoundTrip.Statement .eqz := fun _ => rfl
theorem RoundTrip.shld1 : RoundTrip.Statement .shld1 := fun _ => rfl
theorem RoundTrip.shrd1 : RoundTrip.Statement .shrd1 := fun _ => rfl
theorem RoundTrip.adda : RoundTrip.Statement .adda := fun _ => rfl
theorem RoundTrip.iand : RoundTrip.Statement .iand := fun _ => rfl
theorem RoundTrip.nop : RoundTrip.Statement .nop := fun _ => rfl
theorem RoundTrip.replw : RoundTrip.Statement .replw := fun _ => rfl
theorem RoundTrip.shl8 : RoundTrip.Statement .shl8 := fun _ => rfl
theorem RoundTrip.shr8 : RoundTrip.Statement .shr8 := fun _ => rfl
theorem RoundTrip.shift : RoundTrip.Statement .shift := fun _ => rfl
theorem RoundTrip.shiftd : RoundTrip.Statement .shiftd := fun _ => rfl
theorem RoundTrip.unassignedF (low : BitVec 4) : RoundTrip.Statement (.unassignedF low) := by revert low; unfold RoundTrip.Statement; decide

end Sys2Proof.Laws
end

