-- ==== Sys2Proof/Tests/Slice0.lean ====
section
/-! SUPPORT. Our own tests: words decoded by hand, ill-formed instructions refused, one step for each instruction with
the results that spec/95_test_vectors.md gives, and a witness for the hypotheses of every statement. -/

open Sys2Proof Sys2Proof.Machine

/-! The states of the tests (95_test_vectors.md: five cells on the operand stack, three local registers). -/

/-- The deeper cells of the operand stack. -/
def testRest : List Word := [0xA, 0xB, 0xC, 0xD, 0xE]

/-- The state every test starts from. -/
def testBase : State :=
  { State.reset with
    flow := { pc := 0x1000, npc := 0x1004, grp := some 0xEAEAEAEA, bytelit := false }
    os := { cells := testRest, ptr := 0x10200, active := true }
    ls := { cells := [0x77, 0x78, 0x79], ptr := 0x20200, active := true } }

/-- `s` about to execute at address `a` from the group `g`. -/
def testAt (g a : Word) (s : State) : State :=
  s.setFlow { pc := a, npc := Memory.cellAddress a + 4, grp := some g, bytelit := false }

/-- `s` about to execute the opcode `b` at byte 0 of a group at 0x1000. -/
def testOp (b : Byte) (s : State) : State := testAt (b ++ 0xEAEAEA#24) 0x1000 s

/-- Cells on top of the operand stack of `s`. -/
def testPush (cells : List Word) (s : State) : State := s.stack (cells ++ s.os.cells)

/-- Cells stored in memory. -/
def testMem (cells : List (Word × Word)) (s : State) : State :=
  cells.foldl (fun s c => s.setMem (Memory.writeCell s.mem c.1 c.2)) s

/-- Does `r` answer a next state in which `f` holds? -/
def testNext (r : Result) (f : State → Bool) : Bool :=
  match r with
  | .next t => f t
  | _ => false

/-- Is the operand stack `cells` over the deeper cells? -/
def testStack (cells : List Word) (s : State) : Bool := s.os.cells == cells ++ testRest

/-- The GRS extension as a number. -/
def testGrs (s : State) : Nat := eighths (grsOf s.mode)

/-! Well-formedness: each check refuses an ill-formed term. -/

theorem test_wf_pushR_15 : (Instr.pushR 15).wf = false := by decide
theorem test_wf_popR_15 : (Instr.popR 15).wf = false := by decide
theorem test_wf_pushR_14 : (Instr.pushR 14).wf = true := by decide
theorem test_fits_offset_width : (Instr.brOffset (.w27 0)).fitsAt 1 = false := by decide
theorem test_fits_call_width : (Instr.callOffset (.w11 0)).fitsAt 3 = false := by decide
theorem test_fits_bz_width : (Instr.bzOffset (.w3 0)).fitsAt 2 = false := by decide
theorem test_fits_dbr_width : (Instr.dbrOffset (.w19 0)).fitsAt 0 = false := by decide
theorem test_fits_pushB_byte3 : (Instr.pushB 0).fitsAt 3 = false := by decide

/-! Decoding: words written out bit by bit from R121 to R130. -/

/-- OFFSET at byte 0: 00000 and 27 bits. -/
theorem test_decode_br : decode 0b00000000000000000000000000000011#32 0 = .ok (.brOffset (.w27 3)) := by decide
/-- OFFSET at byte 1: 00010 and 19 bits, -2. -/
theorem test_decode_bz : decode 0b00100000000101111111111111111110#32 1 = .ok (.bzOffset (.w19 0x7FFFE)) := by decide
/-- OFFSET at byte 2: 00011 and 11 bits. -/
theorem test_decode_dbr : decode 0b11001110111010100001100000000000#32 2 = .ok (.dbrOffset (.w11 0)) := by decide
/-- OFFSET at byte 3: 00001 and 3 bits, -1. -/
theorem test_decode_call : decode 0b11101010111010101110101000001111#32 3 = .ok (.callOffset (.w3 7)) := by decide
/-- NIB: 0010 and the nibble. -/
theorem test_decode_pushN : decode 0b00101100111010101110101011101010#32 0 = .ok (.pushN 12) := by decide
/-- BYTE: 10010000, and byte 3. -/
theorem test_decode_pushB : decode 0b10010000110000001110101001111011#32 0 = .ok (.pushB 0x7B) := by decide
/-- LONG: 01001111. -/
theorem test_decode_pushL : decode 0b01001111111010101110101011101010#32 0 = .ok .pushL := by decide
/-- REG: 0111 and the register number. -/
theorem test_decode_pushG : decode 0b01110101111010101110101011101010#32 0 = .ok (.pushG 5) := by decide
/-- REG: 1010 and the register number. -/
theorem test_decode_popR : decode 0b11101010101000011110101011101010#32 1 = .ok (.popR 1) := by decide
/-- OP: arithmetic. -/
theorem test_decode_add : decode 0b11000000111010101110101011101010#32 0 = .ok .add := by decide
/-- OP: shift. -/
theorem test_decode_shiftd : decode 0b11101010111010101110111111101010#32 2 = .ok .shiftd := by decide
/-- OP: skip; the printed patterns are wrong, the map holds (R143). -/
theorem test_decode_skipz : decode 0b00110011111010101110101011101010#32 0 = .ok .skipz := by decide
/-- OP: store. -/
theorem test_decode_st : decode 0b11101010111010100110000011101010#32 2 = .ok .stS0 := by decide
/-- OP: stack cache. -/
theorem test_decode_lframe : decode 0b10111110111010101110101011101010#32 0 = .ok .lframe := by decide
/-- OP: byte. -/
theorem test_decode_testb : decode 0b11011001111010101110101011101010#32 0 = .ok .testb := by decide
/-- OP: floating point. -/
theorem test_decode_norml : decode 0b11000111111010101110101011101010#32 0 = .ok .norml := by decide
/-- OP: on-chip resource. -/
theorem test_decode_stoI : decode 0b10110001111010101110101011101010#32 0 = .ok .stoI := by decide
/-- Unassigned. -/
theorem test_decode_unassigned : decode 0b11110011111010101110101011101010#32 0 = .ok (.unassignedF 3) := by decide
/-- 0x90 at byte 3 is rejected by name (U11). -/
theorem test_decode_pushB_byte3 : decode 0b11101010111010101110101010010000#32 3 = .error .noLiteralByte := by decide

/-! One step for each instruction. The number is the vector's in spec/95_test_vectors.md; where there is none the result
is worked out from the instruction's rule. -/

/-- Vector 42.1. -/
theorem test_brOffset : testNext (step (testAt 0x00000003 0x1000 testBase))
    (fun s => s.flow.pc == 0x100C) = true := by decide

/-- Vector 42.8. -/
theorem test_callOffset : testNext (step (testAt 0x08000010 0x4000 testBase))
    (fun s => s.flow.pc == 0x4040 && s.ls.cells == [0x4004, 0x77, 0x78, 0x79]) = true := by decide

/-- Vector 43.1. -/
theorem test_pushN : testNext (step (testOp 0x20 testBase))
    (fun s => testStack [0] s) = true := by decide

/-- Vector 42.17. -/
theorem test_skipc : testNext (step (testAt 0x31CEEAEA 0x1000 (State.setMode 0x8000 testBase)))
    (fun s => s.flow.pc == 0x1004 && s.os.cells.take 1 == [0xA]) = true := by decide

/-- Vector 42.18. -/
theorem test_skipn_1 : testNext (step (testAt 0x32000005 0x1000 (testPush [0xFFFFFFFF] testBase)))
    (fun s => s.flow.pc == 0x1004 && testStack [] s) = true := by decide

/-- Vector 42.18b. -/
theorem test_skipn_2 : testNext (step (testAt 0x32000005 0x1000 (testPush [0] testBase)))
    (fun s => s.flow.pc == 0x1001 && testStack [] s) = true := by decide

/-- Vector 42.19. -/
theorem test_skipz_1 : testNext (step (testAt 0x33000005 0x1000 (testPush [0] testBase)))
    (fun s => s.flow.pc == 0x1004 && testStack [] s) = true := by decide

/-- Vector 42.20. -/
theorem test_skipz_2 : testNext (step (testAt 0x33000005 0x1000 (testPush [1] testBase)))
    (fun s => s.flow.pc == 0x1001 && testStack [] s) = true := by decide

/-- Vector 42.21. -/
theorem test_skipnc : testNext (step (testAt 0x35000005 0x1000 testBase))
    (fun s => s.flow.pc == 0x1004 && testStack [] s) = true := by decide

/-- Vector 42.22. -/
theorem test_skipnn : testNext (step (testAt 0x36000005 0x1000 (testPush [0] testBase)))
    (fun s => s.flow.pc == 0x1004 && testStack [] s) = true := by decide

/-- Vector 42.23. -/
theorem test_skipnz : testNext (step (testAt 0x37000005 0x1000 (testPush [5] testBase)))
    (fun s => s.flow.pc == 0x1004 && testStack [] s) = true := by decide

/-- Vector 42.31. -/
theorem test_mloop : testNext (step (testAt 0xEA38EAEA 0x1001 (testBase.setCt 1)))
    (fun s => s.ct == 0 && s.flow.pc == 0x1002 && s.flow.npc == 0x1004 && s.os.cells == testRest) = true := by decide

/-- Vector 42.25. -/
theorem test_mloopc : testNext (step (testAt 0xEA39EAEA 0x1001 (testBase.setCt 9)))
    (fun s => s.ct == 8 && s.flow.pc == 0x1002 && s.flow.npc == 0x1004 && s.os.cells == testRest) = true := by decide

/-- Vector 42.26. -/
theorem test_mloopn : testNext (step (testAt 0xEA3AEAEA 0x1001 (testPush [0x80000000] (testBase.setCt 2))))
    (fun s => s.ct == 1 && s.flow.pc == 0x1000 && s.flow.npc == 0x1004 && testStack [0x80000000] s) = true := by decide

/-- Vector 42.27. -/
theorem test_mloopz : testNext (step (testAt 0xEA3BEAEA 0x1001 (testPush [0] (testBase.setCt 5))))
    (fun s => s.ct == 4 && s.flow.pc == 0x1000 && s.flow.npc == 0x1004 && testStack [0] s) = true := by decide

/-- Vector 49.1. -/
theorem test_bkpt : testNext (step (testAt 0xEAEA3CEA 0x1002 (State.locals testBase [1, 2, 3])))
    (fun s => s.flow.pc == 0x134 && s.ls.cells == [0x1002, 1, 2, 3] && s.ctl.intBlock) = true := by decide

/-- Vector 42.28. -/
theorem test_mloopnc : testNext (step (testAt 0xEA3DEAEA 0x1001 (testBase.setCt 3)))
    (fun s => s.ct == 2 && s.flow.pc == 0x1000 && s.flow.npc == 0x1004 && s.os.cells == testRest) = true := by decide

/-- Vector 42.29. -/
theorem test_mloopnn : testNext (step (testAt 0xEA3EEAEA 0x1001 (testPush [0] (testBase.setCt 3))))
    (fun s => s.ct == 2 && s.flow.pc == 0x1000 && s.flow.npc == 0x1004 && testStack [0] s) = true := by decide

/-- Vector 42.30. -/
theorem test_mloopnz : testNext (step (testAt 0xEA3FEAEA 0x1001 (testPush [0] (testBase.setCt 7))))
    (fun s => s.ct == 6 && s.flow.pc == 0x1002 && s.flow.npc == 0x1004 && testStack [0] s) = true := by decide

/-- Vector 45.7. -/
theorem test_ldS0 : testNext (step (testAt 0x40EAEAEA 0x1000 (testMem [(0x3000, 0xCAFEF00D)] (testPush [0x3001] testBase))))
    (fun s => testStack [0xCAFEF00D] s) = true := by decide

/-- Vector 45.6. -/
theorem test_ldX : testNext (step (testAt 0x41EAEAEA 0x1000 (testMem [(0x120, 0x12345678)] (testBase.setX 0x121))))
    (fun s => s.x == 0x121 && testStack [0x12345678] s) = true := by decide

/-- Vector 45.4. -/
theorem test_ldR0 : testNext (step (testAt 0x42EAEAEA 0x1000 (testMem [(0x2000, 0x01020304)] (State.locals testBase [0x2003, 0x66]))))
    (fun s => s.ls.cells == [0x2003, 0x66] && testStack [0x01020304] s) = true := by decide

/-- Vector 45.1. -/
theorem test_ldDecR0 : testNext (step (testAt 0x44EAEAEA 0x1000 (testMem [(0x2004, 0xAABBCCDD)] (State.locals testBase [0x2008, 0x66]))))
    (fun s => s.ls.cells == [0x2004, 0x66] && testStack [0xAABBCCDD] s) = true := by decide

/-- Vector 46.6. -/
theorem test_scache : testNext (step (testAt 0x45EAEAEA 0x1000 (testBase.setOs {cells:=[0xFFFFFFF4, 1, 2, 3, 4, 5, 6, 7], ptr:=0x3100, active:=true})))
    (fun s => s.os.cells == [0xFFFFFFF4, 1, 2, 3, 4] && s.os.ptr == 0x30F4 && Memory.readCell s.mem 0x3100 == 7 && Memory.readCell s.mem 0x30F8 == 5) = true := by decide

/-- Vector 45.3. -/
theorem test_ldR0Inc : testNext (step (testAt 0x46EAEAEA 0x1000 (testMem [(0x2000, 1)] (State.locals testBase [0x2000, 0x66]))))
    (fun s => s.ls.cells == [0x2004, 0x66] && testStack [1] s) = true := by decide

/-- Vector 45.8. -/
theorem test_ldB : testNext (step (testAt 0x48EAEAEA 0x1000 (testMem [(0x3000, 0x11223344)] (testPush [0x3000] testBase))))
    (fun s => testStack [0x11] s) = true := by decide

/-- Vector 45.5. -/
theorem test_ldXInc : testNext (step (testAt 0x49EAEAEA 0x1000 (testMem [(0xFFFFFFFC, 9)] (testBase.setX 0xFFFFFFFC))))
    (fun s => s.x == 0 && testStack [9] s) = true := by decide

/-- Vector 45.2. -/
theorem test_ldDecX : testNext (step (testAt 0x4AEAEAEA 0x1000 (testMem [(0x1FFC, 7)] (testBase.setX 0x2002))))
    (fun s => s.x == 0x1FFE && testStack [7] s) = true := by decide

/-- Vector 42.10. -/
theorem test_brIndirect : testNext (step (testAt 0x4B000000 0x1000 (testPush [0x5002] testBase)))
    (fun s => s.flow.pc == 0x5002 && testStack [] s) = true := by decide

/-- Vector 45.9. -/
theorem test_ldW : testNext (step (testAt 0x4CEAEAEA 0x1000 (testMem [(0x3000, 0x11223344)] (testPush [0x3000] testBase))))
    (fun s => testStack [0x1122] s) = true := by decide

/-- Vector 46.4. -/
theorem test_lcache : testNext (step (testAt 0x4DEAEAEA 0x1000 (testMem [(0x2104, 0xB2), (0x2108, 0xB3), (0x210C, 0xB4)] (testPush [4] (testBase.setLs {cells:=[1, 2], ptr:=0x2100, active:=true})))))
    (fun s => s.ls.cells == [1, 2, 0xB2, 0xB3, 0xB4] && s.ls.ptr == 0x210C && testStack [] s) = true := by decide

/-- Vector 42.11. -/
theorem test_callIndirect : testNext (step (testAt 0xEA4EEAEA 0x6001 (testPush [0x7000] testBase)))
    (fun s => s.flow.pc == 0x7000 && testStack [] s && s.ls.cells == [0x6002, 0x77, 0x78, 0x79]) = true := by decide

/-- Vector 44.2. -/
theorem test_popG : testNext (step (testAt 0x55000000 0x1000 (testPush [9] testBase)))
    (fun s => s.g[5] == 9 && s.g[4] == 0 && testStack [] s) = true := by decide

/-- Vector 45.16. -/
theorem test_stS0 : testNext (step (testAt 0x60EAEAEA 0x1000 (testPush [0x5000, 0x77] testBase)))
    (fun s => testStack [0x77] s && Memory.readCell s.mem 0x5000 == 0x77) = true := by decide

/-- Vector 45.15. -/
theorem test_stX : testNext (step (testAt 0x61EAEAEA 0x1000 (testPush [0x12FF5678] (testBase.setX 0x121))))
    (fun s => s.x == 0x121 && testStack [] s && Memory.readCell s.mem 0x120 == 0x12FF5678) = true := by decide

/-- Vector 45.13. -/
theorem test_stR0 : testNext (step (testAt 0x62EAEAEA 0x1000 (testPush [3] (State.locals testBase [0x2002]))))
    (fun s => s.ls.cells == [0x2002] && testStack [] s && Memory.readCell s.mem 0x2000 == 3) = true := by decide

/-- Vector 45.10. -/
theorem test_stDecR0 : testNext (step (testAt 0x64EAEAEA 0x1000 (testPush [0x55] (State.locals testBase [0x2008]))))
    (fun s => s.ls.cells == [0x2004] && testStack [] s && Memory.readCell s.mem 0x2004 == 0x55) = true := by decide

/-- Vector 45.12. -/
theorem test_stR0Inc : testNext (step (testAt 0x66EAEAEA 0x1000 (testPush [0xDEADBEEF] (State.locals testBase [0x2000]))))
    (fun s => s.ls.cells == [0x2004] && testStack [] s && s.mem == [(0x2000, 0xDE), (0x2001, 0xAD), (0x2002, 0xBE), (0x2003, 0xEF)]) = true := by decide

/-- Vector 45.11. -/
theorem test_stDecX : testNext (step (testAt 0x68EAEAEA 0x1000 (testPush [1] testBase)))
    (fun s => s.x == 0xFFFFFFFC && testStack [] s && Memory.readCell s.mem 0xFFFFFFFC == 1) = true := by decide

/-- Vector 45.14. -/
theorem test_stXInc : testNext (step (testAt 0x69EAEAEA 0x1000 (testMem [(0x4000, 0x12)] (testPush [0] (testBase.setX 0x4000)))))
    (fun s => s.x == 0x4004 && testStack [] s && s.mem == []) = true := by decide

/-- Vector 42.13. -/
theorem test_ret : testNext (step (testAt 0x6EEAEAEA 0x1000 (State.locals testBase [0x4004, 0x77])))
    (fun s => s.flow.pc == 0x4004 && s.ls.cells == [0x77]) = true := by decide

/-- Vector 42.14. -/
theorem test_reti : testNext (step (testAt 0x6FEAEAEA 0x1000 (State.locals (testBase.setRes {testBase.res with ioius:=0x24}) [0x8000, 0x77])))
    (fun s => s.flow.pc == 0x8000 && s.ls.cells == [0x77] && s.res.ioius == 0x20) = true := by decide

/-- Vector 44.1. -/
theorem test_pushG : testNext (step (testAt 0x75000000 0x1000 (testBase.setG (testBase.g.set 5 0x12345678))))
    (fun s => s.os.cells.take 2 == [0x12345678, 0xA]) = true := by decide

/-- Vector 44.3. -/
theorem test_pushR : testNext (step (testAt 0x82000000 0x1000 (State.locals testBase [7, 8, 9])))
    (fun s => s.os.cells.take 2 == [9, 0xA] && s.ls.cells == [7, 8, 9]) = true := by decide

/-- Vector 44.8. -/
theorem test_pushMode : testNext (step (testAt 0x91000000 0x1000 (State.setMode 0x12345678 testBase)))
    (fun s => s.os.cells.take 2 == [0x12345678, 0xA]) = true := by decide

/-- Vector 44.92. -/
theorem test_pushDup : testNext (step (testOp 0x92 (testPush [5, 6] testBase)))
    (fun s => testStack [5, 5, 6] s) = true := by decide

/-- Vector 44.93. -/
theorem test_pushS1 : testNext (step (testOp 0x93 (testPush [5, 6] testBase)))
    (fun s => testStack [6, 5, 6] s) = true := by decide

/-- Vector 44.6. -/
theorem test_pushCt : testNext (step (testAt 0x94000000 0x1000 (testBase.setCt 3)))
    (fun s => s.os.cells.take 2 == [3, 0xA]) = true := by decide

/-- Vector 47.95. -/
theorem test_sexw : testNext (step (testOp 0x95 (testPush [0x8000] testBase)))
    (fun s => testStack [0xFFFF8000] s) = true := by decide

/-- Vector 49.4. -/
theorem test_ldo : testNext (step (testOp 0x96 (testPush [0x60] testBase)))
    (fun s => testStack [0xFF] s) = true := by decide

/-- Vector 44.7. -/
theorem test_pushX : testNext (step (testAt 0x98000000 0x1000 (testBase.setX 0x1004)))
    (fun s => s.os.cells.take 2 == [0x1004, 0xA]) = true := by decide

/-- Vector 47.99. -/
theorem test_split : testNext (step (testOp 0x99 (testPush [0x12345678] testBase)))
    (fun s => testStack [0x1234, 0x5678] s) = true := by decide

/-- Vector 44.18. -/
theorem test_pushLstack : testNext (step (testAt 0x9A000000 0x1000 (State.locals testBase [0x11, 0x22])))
    (fun s => s.ls.cells == [0x22] && testStack [0x11] s) = true := by decide

/-- Vector 46.3. -/
theorem test_ldepth : testNext (step (testAt 0x9BEAEAEA 0x1000 (State.locals testBase [1, 2, 3, 4, 5])))
    (fun s => s.os.cells.take 1 == [4]) = true := by decide

/-- Vector 46.12. -/
theorem test_pushSa : testNext (step (testAt 0x9CEAEAEA 0x1000 testBase))
    (fun s => s.os.cells.take 2 == [0x10200, 0xA]) = true := by decide

/-- Vector 46.12b. -/
theorem test_pushLa : testNext (step (testAt 0x9DEAEAEA 0x1000 testBase))
    (fun s => s.os.cells.take 2 == [0x20200, 0xA]) = true := by decide

/-- Vector 44.9E. -/
theorem test_pushS2 : testNext (step (testOp 0x9E (testPush [5, 6, 7] testBase)))
    (fun s => testStack [7, 5, 6, 7] s) = true := by decide

/-- Vector 46.1. -/
theorem test_sdepth : testNext (step (testAt 0x9FEAEAEA 0x1000 testBase))
    (fun s => testStack [2] s) = true := by decide

/-- Vector 44.5. -/
theorem test_popR : testNext (step (testAt 0xA1000000 0x1000 (testPush [0x55] (State.locals testBase [7, 8, 9]))))
    (fun s => testStack [] s && s.ls.cells == [7, 0x55, 9]) = true := by decide

/-- Vector 49.6. -/
theorem test_sto : testNext (step (testOp 0xB0 (testPush [0x60, 0xFE] testBase)))
    (fun s => testStack [0xFE] s && s.res.ioout == 0xFE) = true := by decide

/-- Vector 49.9. -/
theorem test_stoI : testNext (step (testOp 0xB1 (testPush [0x82, 0xFFFFFFFF] testBase)))
    (fun s => testStack [0xFFFFFFFF] s && s.res.ioie == 4) = true := by decide

/-- Vector 44.B2. -/
theorem test_xcg : testNext (step (testOp 0xB2 (testPush [5, 6, 7] testBase)))
    (fun s => testStack [6, 5, 7] s) = true := by decide

/-- Vector 44.B3. -/
theorem test_popDrop : testNext (step (testOp 0xB3 (testPush [5, 6, 7] testBase)))
    (fun s => testStack [6, 7] s) = true := by decide

/-- Vector 44.6b. -/
theorem test_popCt : testNext (step (testAt 0xB4000000 0x1000 (testPush [4] testBase)))
    (fun s => s.ct == 4 && testStack [] s) = true := by decide

/-- Vector 48.13. -/
theorem test_replexp : testNext (step (testOp 0xB5 (testPush [0xC0000000, 0x00C90FDB] (State.setMode (7#32 <<< 28) (testBase.setCt 0)))))
    (fun s => testStack [0xC0490FDB] s && s.mode == 0) = true := by decide

/-- Vector 49.14. -/
theorem test_ei : testNext (step (testOp 0xB6 testBase))
    (fun s => s.mode == 0x2000) = true := by decide

/-- Vector 49.14b. -/
theorem test_di : testNext (step (testOp 0xB7 (State.setMode 0xA000 testBase)))
    (fun s => s.mode == 0x8000) = true := by decide

/-- Vector 44.7b. -/
theorem test_popX : testNext (step (testAt 0xB8000000 0x1000 (testPush [0x121] testBase)))
    (fun s => s.x == 0x121 && testStack [] s) = true := by decide

/-- Vector 44.9. -/
theorem test_popMode : testNext (step (testAt 0xB9000000 0x1000 (testPush [0xFFFFFFFF] (State.setMode 0x02004000 testBase))))
    (fun s => s.mode == 0xFFEFBFFF && testStack [] s) = true := by decide

/-- Vector 44.19. -/
theorem test_popLstack : testNext (step (testAt 0xBA000000 0x1000 (testPush [5] (State.locals testBase [0x22]))))
    (fun s => s.ls.cells == [5, 0x22] && testStack [] s) = true := by decide

/-- Vector 40.4. -/
theorem test_addPc : testNext (step (testAt 0xEAEABBEA 0x1002 (testPush [0x10] testBase)))
    (fun s => s.os.cells.take 1 == [0x1012] && !s.carry) = true := by decide

/-- Vector 46.10. -/
theorem test_popSa : testNext (step (testAt 0xBCEAEAEA 0x1000 (testMem [(0x10004, 0x99)] (State.setMode 0x100000 (State.stack testBase [0x10000, 7, 8, 1, 2])))))
    (fun s => s.os.cells == [7, 8, 0x99] && s.os.ptr == 0x10004 && s.mode == 0) = true := by decide

/-- Vector 46.11. -/
theorem test_popLa : testNext (step (testAt 0xBDEAEAEA 0x1000 (testMem [(0x20004, 0x1234)] (State.setMode 0x2000000 (testPush [0x20002] testBase)))))
    (fun s => s.ls.cells == [0x1234] && s.ls.ptr == 0x20004 && s.mode == 0) = true := by decide

/-- Vector 46.7. -/
theorem test_lframe : testNext (step (testOp 0xBE (testPush [3] (testBase.setLs
      { cells := (List.range 14).map fun i => BitVec.ofNat 32 (0xA0 + i), ptr := 0x2100, active := true }))))
    (fun s => s.ls.cells.length == 15 && s.ls.ptr == 0x20F8 && testStack [] s &&
      Memory.readCell s.mem 0x2100 == 0xAD && Memory.readCell s.mem 0x20FC == 0xAC) = true := by decide

/-- Vector 46.9. -/
theorem test_sframe : testNext (step (testAt 0xBFEAEAEA 0x1000 (State.stack testBase [0xFFFFFFFE, 9, 1, 2, 3])))
    (fun s => s.os.cells == [0xFFFFFFFE, 9, 3]) = true := by decide

/-- Vector 40.1. -/
theorem test_add_1 : testNext (step (testOp 0xC0 (testPush [1, 0xFFFFFFFF] testBase)))
    (fun s => testStack [0] s && s.carry) = true := by decide

/-- Vector 40.3. -/
theorem test_add_2 : testNext (step (testOp 0xC0 (testPush [0, 0] (State.setMode 0x8000 testBase))))
    (fun s => testStack [0] s && !s.carry) = true := by decide

/-- Vector 40.29. -/
theorem test_decCt : testNext (step (testOp 0xC1 testBase))
    (fun s => s.ct == 0xFFFFFFFF) = true := by decide

/-- Vector 40.7. -/
theorem test_addc : testNext (step (testOp 0xC2 (testPush [7, 5] (State.setMode 0x8000 testBase))))
    (fun s => testStack [13] s && !s.carry) = true := by decide

/-- Vector 40.35. -/
theorem test_xor : testNext (step (testOp 0xC3 (testPush [0xFF00FF00, 0xFFFF0000] (State.setMode 0x8000 testBase))))
    (fun s => testStack [0x00FFFF00] s && !s.carry) = true := by decide

/-- Vector 48.8. -/
theorem test_expdif : testNext (step (testOp 0xC4 (testPush [0x3FC00000, 0x41200000] (testBase.setCt 0xFFFF1234))))
    (fun s => testStack [0x00C00000, 0x00A00000] s && s.mode == 0 && s.ct == 0x01801234) = true := by decide

/-- Vector 48.19. -/
theorem test_denorm_1 : testNext (step (testOp 0xC5 (testPush [0x00C00005] (testBase.setCt 0x01800000))))
    (fun s => testStack [0x00180000] s && s.mode == 0x50000400 && s.ct == 0) = true := by decide

/-- Vector 48.23. -/
theorem test_denorm_2 : testNext (step (testOp 0xC5 (testPush [0x00100000, 3] (State.setMode 1 (testBase.setCt 0x00200000)))))
    (fun s => testStack [0x00040000, 0] s && s.mode == 0x60000401 && s.ct == 0) = true := by decide

/-- Vector 48.24. -/
theorem test_normr_1 : testNext (step (testOp 0xC6 (testPush [0x01800001] (testBase.setCt 0x40000000))))
    (fun s => testStack [0x00C00000] s && s.mode == 0x40000400 && s.ct == 0x40800000) = true := by decide

/-- Vector 48.29. -/
theorem test_normr_2 : testNext (step (testOp 0xC6 (testPush [0x00200000, 1] (State.setMode 1 (testBase.setCt 0x40000000)))))
    (fun s => testStack [0x00100000, 0] s && s.mode == 0x40000401 && s.ct == 0x40100000) = true := by decide

/-- Vector 48.30. -/
theorem test_norml : testNext (step (testOp 0xC7 (testPush [0x300] (State.setMode (4#32 <<< 28) (testBase.setCt 0x40000000)))))
    (fun s => testStack [0x00C02000] s && s.mode == 0 && s.ct == 0x39000000) = true := by decide

/-- Vector 40.10. -/
theorem test_sub : testNext (step (testOp 0xC8 (testPush [5, 3] testBase)))
    (fun s => testStack [0xFFFFFFFE] s && s.carry) = true := by decide

/-- Vector 40.23. -/
theorem test_neg : testNext (step (testOp 0xC9 (testPush [1] testBase)))
    (fun s => testStack [0xFFFFFFFF] s) = true := by decide

/-- Vector 40.13. -/
theorem test_subb_1 : testNext (step (testOp 0xCA (testPush [3, 10] (State.setMode 0x8000 testBase))))
    (fun s => testStack [6] s && !s.carry) = true := by decide

/-- Vector 40.15. -/
theorem test_subb_2 : testNext (step (testOp 0xCA (testPush [0, 0] (State.setMode 0x8000 testBase))))
    (fun s => testStack [0xFFFFFFFF] s && s.carry) = true := by decide

/-- Vector 40.16. -/
theorem test_cmp_1 : testNext (step (testOp 0xCB (testPush [3, 2] testBase)))
    (fun s => testStack [3, 2] s && s.carry) = true := by decide

/-- Vector 40.19. -/
theorem test_cmp_2 : testNext (step (testOp 0xCB (testPush [5, 5] (State.setMode 0x8000 testBase))))
    (fun s => testStack [5, 5] s && !s.carry) = true := by decide

/-- Vector 40.26. -/
theorem test_inc4 : testNext (step (testOp 0xCC (testPush [0xFFFFFFFE] testBase)))
    (fun s => testStack [2] s) = true := by decide

/-- Vector 40.28. -/
theorem test_dec4 : testNext (step (testOp 0xCD (testPush [2] (State.setMode 0x8000 testBase))))
    (fun s => testStack [0xFFFFFFFE] s && s.carry) = true := by decide

/-- Vector 40.25. -/
theorem test_inc1 : testNext (step (testOp 0xCE (testPush [0xFFFFFFFF] testBase)))
    (fun s => testStack [0] s && !s.carry) = true := by decide

/-- Vector 40.27. -/
theorem test_dec1 : testNext (step (testOp 0xCF (testPush [0] testBase)))
    (fun s => testStack [0xFFFFFFFF] s) = true := by decide

/-- Vector 47.D0. -/
theorem test_copyb : testNext (step (testOp 0xD0 (testPush [0x12345678] testBase)))
    (fun s => testStack [0x78787878] s) = true := by decide

/-- Vector 48.36. -/
theorem test_rnd_1 : testNext (step (testOp 0xD1 (testPush [0x00800001] (State.setMode (0#32 <<< 28) (testBase.setCt 0)))))
    (fun s => testStack [0x00800001] s && (s.mode == (0#32 <<< 28) && s.ct == 0)) = true := by decide

/-- Vector 48.44. -/
theorem test_rnd_2 : testNext (step (testOp 0xD1 (testPush [0xFFFFFFFF] (State.setMode (4#32 <<< 28) (testBase.setCt 0)))))
    (fun s => testStack [0] s && s.mode == 0x40009000) = true := by decide

/-- Vector 48.1. -/
theorem test_addexp : testNext (step (testOp 0xD2 (testPush [0xC0400000, 0x40000000] (testBase.setCt 0))))
    (fun s => testStack [0xC0800000, 0x00C00000, 0x00800000] s && s.mode == 0) = true := by decide

/-- Vector 48.5. -/
theorem test_subexp : testNext (step (testOp 0xD3 (testPush [0x40000000, 0x40C00000] (testBase.setCt 0))))
    (fun s => testStack [0x3F800000, 0x00800000, 0x00C00000] s && s.mode == 0) = true := by decide

/-- Vector 48.15. -/
theorem test_testexp_1 : testNext (step (testOp 0xD4 (testPush [0x7F800000, 0x3F800000] (State.setMode (5#32 <<< 28) (testBase.setCt 0)))))
    (fun s => testStack [0x7F800000, 0x3F800000] s && s.mode == 0x8010) = true := by decide

/-- Vector 48.18b. -/
theorem test_testexp_2 : testNext (step (testOp 0xD4 (testPush [0x7F800000, 0x3FF00000] (State.setMode 1 (testBase.setCt 0)))))
    (fun s => testStack [0x7F800000, 0x3FF00000] s && s.mode == 1) = true := by decide

/-- Vector 41.34. -/
theorem test_muls : testNext (step (testOp 0xD5 (testPush [0, 3] (testBase.setG (testBase.g.set 0 0xFFFFFFFE)))))
    (fun s => testStack [0xFFFFFFFF, 0xFFFFFFFA] s) = true := by decide

/-- Vector 41.37. -/
theorem test_mulfs_1 : testNext (step (testOp 0xD6 (testPush [0, 0x16] ((testBase.setG (testBase.g.set 0 100)).setCt 5))))
    (fun s => testStack [0x514, 0] s && s.ct == 0) = true := by decide

/-- Vector 41.40. -/
theorem test_mulfs_2 : testNext (step (testOp 0xD6 (testPush [1, 0x16] ((testBase.setG (testBase.g.set 0 100)).setCt 5))))
    (fun s => testStack [0x534, 0x08000000] s && s.ct == 0) = true := by decide

/-- Vector 41.31. -/
theorem test_mulu : testNext (step (testOp 0xD7 (testPush [0xFFFFFFFF, 0xFFFFFFFF] (testBase.setG (testBase.g.set 0 0xFFFFFFFF)))))
    (fun s => testStack [0xFFFFFFFF, 0] s) = true := by decide

/-- Vector 47.D8. -/
theorem test_sexb : testNext (step (testOp 0xD8 (testPush [0x80] testBase)))
    (fun s => testStack [0xFFFFFF80] s) = true := by decide

/-- Vector 47.D9. -/
theorem test_testb : testNext (step (testOp 0xD9 (testPush [0x41420043] testBase)))
    (fun s => testStack [0x41420043] s && s.carry) = true := by decide

/-- Vector 47.6. -/
theorem test_replb : testNext (step (testOp 0xDA (testPush [0x12345678, 0xCCDDEEFF] (testBase.setX 0x120))))
    (fun s => testStack [0xFF345678] s) = true := by decide

/-- Vector 48.11. -/
theorem test_extexp : testNext (step (testOp 0xDB (testPush [0xC0490FDB] (testBase.setCt 0))))
    (fun s => testStack [0xC0000000] s && s.mode == 0) = true := by decide

/-- Vector 48.12. -/
theorem test_extsig : testNext (step (testOp 0xDC (testPush [0xC0490FDB] (testBase.setCt 0))))
    (fun s => testStack [0x00C90FDB] s && s.mode == 0) = true := by decide

/-- Vector 40.37. -/
theorem test_notc : testNext (step (testOp 0xDD (State.setMode 0x8000 testBase)))
    (fun s => !s.carry) = true := by decide

/-- Vector 41.41. -/
theorem test_divu : testNext (step (testOp 0xDE (testPush [0, 123] (testBase.setG (testBase.g.set 0 10)))))
    (fun s => testStack [3, 12] s) = true := by decide

/-- Vector 40.20. -/
theorem test_mxm_1 : testNext (step (testOp 0xDF (testPush [3, 7] testBase)))
    (fun s => testStack [7, 3] s && !s.carry) = true := by decide

/-- Vector 40.22. -/
theorem test_mxm_2 : testNext (step (testOp 0xDF (testPush [4, 4] (State.setMode 0x8000 testBase))))
    (fun s => testStack [4, 4] s && !s.carry) = true := by decide

/-- Vector 40.34. -/
theorem test_or : testNext (step (testOp 0xE0 (testPush [0xF, 0xF0] (State.setMode 0x8000 testBase))))
    (fun s => testStack [0xFF] s && !s.carry) = true := by decide

/-- Vector 40.33. -/
theorem test_and : testNext (step (testOp 0xE1 (testPush [0x0FF00FF0, 0xFF00FF00] (State.setMode 0x8000 testBase))))
    (fun s => testStack [0x0F000F00] s && !s.carry) = true := by decide

/-- Vector 41.1. -/
theorem test_shl1 : testNext (step (testOp 0xE2 (testPush [0x80000001] testBase)))
    (fun s => testStack [2] s && s.carry) = true := by decide

/-- Vector 41.7. -/
theorem test_shr1_1 : testNext (step (testOp 0xE3 (testPush [3] testBase)))
    (fun s => testStack [1] s && !s.carry && testGrs s == 4) = true := by decide

/-- Vector 41.10. -/
theorem test_shr1_2 : testNext (step (testOp 0xE3 (testPush [0] (State.setMode (1#32 <<< 28) testBase))))
    (fun s => testStack [0] s && testGrs s == 1) = true := by decide

/-- Vector 44.E4. -/
theorem test_rev : testNext (step (testOp 0xE4 (testPush [3, 2, 1, 9] testBase)))
    (fun s => testStack [1, 3, 2, 9] s) = true := by decide

/-- Vector 40.31. -/
theorem test_eqz : testNext (step (testOp 0xE5 (testPush [0] (State.setMode 0x8000 testBase))))
    (fun s => testStack [0xFFFFFFFF] s && s.carry) = true := by decide

/-- Vector 41.5. -/
theorem test_shld1 : testNext (step (testOp 0xE6 (testPush [0x80000000, 0x80000001] testBase)))
    (fun s => testStack [1, 2] s && s.carry) = true := by decide

/-- Vector 41.15. -/
theorem test_shrd1 : testNext (step (testOp 0xE7 (testPush [1, 1] testBase)))
    (fun s => testStack [0, 0x80000000] s && testGrs s == 4) = true := by decide

/-- Vector 40.5. -/
theorem test_adda : testNext (step (testOp 0xE8 (testPush [2, 0xFFFFFFFF] testBase)))
    (fun s => testStack [1] s && !s.carry) = true := by decide

/-- Vector 40.36. -/
theorem test_iand : testNext (step (testOp 0xE9 (testPush [0xFF00, 0xFFFFFFFF] (State.setMode 0x8000 testBase))))
    (fun s => testStack [0xFFFF00FF] s && !s.carry) = true := by decide

/-- Vector 47.7. -/
theorem test_replw : testNext (step (testOp 0xEB (testPush [0x12345678, 0xCCDDEEFF] (testBase.setX 0x120))))
    (fun s => testStack [0xEEFF5678] s) = true := by decide

/-- Vector 41.3. -/
theorem test_shl8 : testNext (step (testOp 0xEC (testPush [0x01234567] testBase)))
    (fun s => testStack [0x23456700] s && s.carry) = true := by decide

/-- Vector 41.11. -/
theorem test_shr8 : testNext (step (testOp 0xED (testPush [0x12345680] testBase)))
    (fun s => testStack [0x00123456] s && testGrs s == 4) = true := by decide

/-- Vector 41.17. -/
theorem test_shift_1 : testNext (step (testOp 0xEE (testPush [4, 1] testBase)))
    (fun s => testStack [0x10] s && !s.carry) = true := by decide

/-- Vector 41.26. -/
theorem test_shift_2 : testNext (step (testOp 0xEE (testPush [0x80000000, 0x1234] (State.setMode 0x8000 testBase))))
    (fun s => testStack [0x1234] s && testGrs s == 0) = true := by decide

/-- Vector 41.27. -/
theorem test_shiftd_1 : testNext (step (testOp 0xEF (testPush [1, 1, 0x80000000] testBase)))
    (fun s => testStack [3, 0] s && !s.carry) = true := by decide

/-- Vector 41.30. -/
theorem test_shiftd_2 : testNext (step (testOp 0xEF (testPush [0x80000020, 0xDEADBEEF, 1] testBase)))
    (fun s => testStack [0, 0xDEADBEEF] s && testGrs s == 1) = true := by decide

/-- Vector 42.4, its second opcode: R232. -/
theorem test_bzOffset : testNext (step (testAt 0x2017FFFE 0x2001 (testPush [0] testBase)))
    (fun s => s.flow.pc == 0x1FF8 && testStack [] s) = true := by decide
/-- R233: `ct` 3 becomes 2, and the group is entered again. -/
theorem test_dbrOffset : testNext (step (testAt 0x18000000 0x3000 (testBase.setCt 3)))
    (fun s => s.flow.pc == 0x3000 && s.ct == 2) = true := by decide
/-- R240. -/
theorem test_skip : testNext (step (testAt 0x30CECECE 0x1000 testBase))
    (fun s => s.flow.pc == 0x1004 && testStack [] s) = true := by decide
/-- R281: the literal is byte 3, zero-extended. -/
theorem test_pushB : testNext (step (testAt 0x90C0EAFB 0x1000 testBase))
    (fun s => testStack [0xFB] s && s.flow.pc == 0x1001 && s.flow.bytelit) = true := by decide
/-- R282: the literal is the cell at `npc`. -/
theorem test_pushL : testNext (step (testAt 0x4FEAEAEA 0x1000 (testMem [(0x1004, 0x89ABCDEF)] testBase)))
    (fun s => testStack [0x89ABCDEF] s && s.flow.npc == 0x1008) = true := by decide
/-- R431: the return, with the single-step trap armed. -/
theorem test_step : testNext (step (testOp 0x34 (testBase.locals [0x2001, 0x66])))
    (fun s => s.flow.pc == 0x2001 && s.ls.cells == [0x66] && s.ctl.stepPending) = true := by decide
/-- R431: after the next instruction the trap at 0x138, with the address after it. -/
theorem test_stepped : testNext
    (step (testAt 0xC0C8EAEA 0x2001 (testPush [3, 5] (testBase.setCtl { testBase.ctl with stepPending := true }))))
    (fun s => s.flow.pc == 0x138 && s.ls.cells == [0x2002, 0x77, 0x78, 0x79] && testStack [2] s && s.ctl.intBlock)
    = true := by decide
/-- R433. -/
theorem test_ldoI : testNext
    (step (testOp 0x97 (testPush [0x04] (testBase.setRes { testBase.res with ioin := 0xF7 }))))
    (fun s => testStack [0xFFFFFFFF] s) = true := by decide
/-- R181. -/
theorem test_nop : testNext (step (testOp 0xEA testBase)) (fun s => s.flow.pc == 0x1001 && testStack [] s) = true := by
  decide
/-- R140. -/
theorem test_unassigned : step (testOp 0x43 testBase) = .refused (.unassignedOpcode 0x43) := rfl
/-- Vector 60.7: interrupt 2 is above interrupt 3 under service. -/
theorem test_interrupt : testNext
    (step (testOp 0xEA ((testBase.setMode 0x2000).setRes { testBase.res with ioip := 0x14, ioius := 0x08 })))
    (fun s => s.res.ioip == 0x10 && s.res.ioius == 0x0C && s.ls.cells.take 1 == [0x1000] && s.ctl.intBlock)
    = true := by decide


/-! Where the cycle has its corners. -/

/-- R97, U18: a fetch that never ends leaves the CPU waiting where it was. -/
theorem test_hung : testNext
    (step (testOp 0x30 (testBase.setPlat { testBase.plat with
      bus := [{ dval := false, faultb := false, lands := false, late := 0 }] })))
    (fun s => s.plat.stuck && s.flow.pc == 0x1000 && testStack [] s) = true := by decide
/-- R520: a reset ends the wait. -/
theorem test_hung_reset : testNext
    (step (hang (testBase.setPlat { testBase.plat with env := [{ samples := [], reset := some true }] })))
    (fun s => !s.plat.stuck && s.flow.pc == 0x80000008 && s.mode == 0x4000) = true := by decide
/-- U18: without one the machine is stuck. -/
theorem test_hung_for_good : step (hang testBase) = .fault .busStuck := rfl
/-- R97: a transfer into a group that never arrives is no refusal of its bytes. -/
theorem test_hung_ret : testNext
    (step (testOp 0x6E ((testBase.locals [0x2003, 5]).setPlat { testBase.plat with
      bus := [{ dval := false, faultb := false, lands := false, late := 0 }] })))
    (fun s => s.plat.stuck) = true := by decide
/-- R97: a store to the cell at `npc` behind a posted write that never ends waits, and is no refusal -/
theorem test_hung_store : testNext
    (step (testAt 0x60EAEAEA 0x1000 ((testPush [0x1004, 7] testBase).setPlat { testBase.plat with
      posted := some { addr := 0x2000, data := 1, dval := false, faultb := false, late := 3 } })))
    (fun s => s.plat.stuck && s.flow.pc == 0x1000 && testStack [0x1004, 7] s) = true := by decide
/-- R93.3: a call spills into the cell after the group it entered. -/
theorem test_spill_entered : testNext
    (step (testAt 0x08000010 0x4000 (testBase.setLs
      { cells := List.replicate 15 (9 : Word), ptr := 0x4044, active := true })))
    (fun s => s.flow.pc == 0x4040 && s.flow.npc == 0x4044 && Memory.readCell s.mem 0x4044 == 9) = true := by decide
/-- U10: an instruction at byte 3 spills into the cell that its group ran on into. -/
theorem test_spill_prefetched : step (testAt 0xEAEAEA92 0x1003 (testBase.setOs
      { cells := List.replicate 17 (9 : Word), ptr := 0x1004, active := true })) =
    .refused .storeToPrefetchedCell := rfl
/-- R300: the fault of the fetch that ends `pop mode` is signalled under the enables before it. -/
theorem test_popMode_enables : testNext
    (step (testAt 0xEAEAEAB9 0x1003 (testPush [0x08000000] (testBase.setPlat { testBase.plat with
      bus := [{ dval := true, faultb := true, lands := false, late := 0 }] }))))
    (fun s => s.mode == 0x0C000000 && s.ctl.pending == [] && s.flow.pc == 0x1004) = true := by decide

/-! Witnesses: for every statement that has hypotheses, states and operands that meet them, at the ends of their ranges
where they have any. -/

/-- `testBase` with another operand stack. -/
def testCells (cells : List Word) : State := testBase.stack cells

/-- `testBase` with another local-register stack. -/
def testLocals (cells : List Word) : State := testBase.locals cells

/-- The answer of a bus that ends the transfer with *FAULTB. -/
def testFaulting : BusAnswer := { dval := true, faultb := true, lands := false, late := 0 }

/-- `s` with these answers of the bus to come. -/
def testBus (answers : List BusAnswer) (s : State) : State := s.setPlat { s.plat with bus := answers }

/-- Does `r` answer a next state? -/
def testRuns (r : Result) : Bool := testNext r fun _ => true

/-- `testBase` in double precision. -/
def testDouble (cells : List Word) : State := (testCells cells).setMode 1

/-- Every statement about the instructions on one, two or three cells of an allocated operand stack: Addition,
Subtraction, Comparison, UnaryArithmetic, Logic, FixedShifts, Skips, MicroLoops, PushRegisters, PopRegisters,
ModeAndEnable, ByteWord, FloatExponents, FloatFields, Rounding. -/
theorem witness_stack_shapes : testBase.os.active = true ∧
    (testCells [0xFFFFFFFF]).os.cells = 0xFFFFFFFF :: [] ∧ (testCells [0xFFFFFFFF]).os.active = true ∧
    (testCells [0x80000000, 1]).os.cells = 0x80000000 :: 1 :: [] ∧ (testCells [0x80000000, 1]).os.active = true ∧
    testBase.os.cells = 0xA :: 0xB :: 0xC :: [0xD, 0xE] := by decide

theorem witness_DecodeEncode : (Instr.brOffset (.w3 7)).fitsAt 3 = true ∧ (Instr.pushB 0xFF).fitsAt 2 = true ∧
    (Instr.callOffset (.w27 0x4000000)).fitsAt 0 = true ∧ (Instr.pushS0).fitsAt 1 = true := by decide

theorem witness_EncodeDecode : decode 0xEAEAEA07#32 3 = .ok (.brOffset (.w3 7)) ∧
    decode 0xEAEA90FF#32 2 = .ok (.pushB 0xFF) := by decide

/-- `testBase` with a reset coming. -/
def testReset (powerUp : Bool) : State :=
  testBase.setPlat { testBase.plat with env := [{ samples := [], reset := some powerUp }] }

theorem witness_ResetStep (b : Bool) : (testReset b).plat.env = { samples := [], reset := some b } :: [] ∧
    (hang (testReset b)).plat.env = { samples := [], reset := some b } :: [] := ⟨rfl, rfl⟩

/-- `testBase` with both stacks full. -/
def testFull : State :=
  (testBase.stack (List.replicate 17 (7 : Word))).locals (List.replicate 15 (8 : Word))

theorem witness_StepKeepsInv_base : testBase.Inv ∧ testRuns (step (testOp 0xC0 testBase)) = true :=
  ⟨⟨by decide, by unfold State.osWithin; decide, by unfold State.lsWithin; decide,
    by unfold State.aligned cellAligned; decide⟩, by decide⟩

theorem witness_StepKeepsInv_full : (testOp 0x92 testFull).Inv ∧ testRuns (step (testOp 0x92 testFull)) = true :=
  ⟨⟨by decide, by unfold State.osWithin; decide, by unfold State.lsWithin; decide,
    by unfold State.aligned cellAligned; decide⟩, by decide⟩

/-- The state after the update of the inputs, and after the first fetch where it is still to be made. -/
def testInput (s : State) : State := samplePins (takeInput s).1.samples (takeInput s).2

/-- The same, after the first fetch where it is still to be made. -/
def testFetched (s : State) : State :=
  if (testInput s).flow.grp = none then enterGroup (testInput s).flow.pc (testInput s) else testInput s

/-- A group in the latch; the first fetch after reset; and a `push.b` at byte 3. -/
theorem witness_StepRunsDecoded :
    (testOp 0xC0 testBase).plat.stuck = false ∧ (takeInput (testOp 0xC0 testBase)).1.reset = none ∧
    (testFetched (testOp 0xC0 testBase)).plat.stuck = false ∧ (testFetched (testOp 0xC0 testBase)).ctl.pending = [] ∧
    (recognize (testFetched (testOp 0xC0 testBase))).1 = none ∧
    decode (group (testFetched (testOp 0xC0 testBase))) (byteIndex (testFetched (testOp 0xC0 testBase)).flow.pc) =
      .ok .add ∧
    (testFetched State.reset).plat.stuck = false ∧ (testFetched State.reset).ctl.pending = [] ∧
    (recognize (testFetched State.reset)).1 = none ∧
    decode (group (testFetched State.reset)) (byteIndex (testFetched State.reset).flow.pc) = .ok (.brOffset (.w27 0)) ∧
    groupByte (group (testFetched (testAt 0xEAEAEA90 0x1003 testBase))) 3 = 0x90 ∧
    byteIndex (testFetched (testAt 0xEAEAEA90 0x1003 testBase)).flow.pc = 3 := by decide

/-- The first fetch never ends. -/
theorem witness_StepRunsDecoded_hung :
    (testFetched (State.reset.setPlat { State.reset.plat with
      bus := [{ dval := false, faultb := false, lands := false, late := 0 }] })).plat.stuck = true := by decide

/-- Sequencing, BytesFromMemory, Refills: a quiet bus. -/
theorem witness_quiet : testBase.busQuiet := by unfold State.busQuiet; decide

theorem witness_ShiftByCount : BitVec.msb (0x3F : Word) = false ∧ BitVec.msb (0 : Word) = false ∧
    BitVec.msb (0xFFFFFFFF : Word) = true ∧ BitVec.msb (0x80000000 : Word) = true ∧
    (testCells [0x3F, 1]).os.cells = 0x3F :: 1 :: [] ∧
    (testCells [0xFFFFFFFF, 1, 2]).os.cells = 0xFFFFFFFF :: 1 :: 2 :: [] := by decide

theorem witness_Multiply_one : ((testCells [5, 1]).setCt 1).os.cells = 5 :: 1 :: [] ∧
    ((testCells [5, 1]).setCt 1).os.active = true ∧ ((testCells [5, 1]).setCt 1).ct = BitVec.ofNat 32 1 ∧
    ∀ j, j < 1 → (1#1).getLsbD j = (1 : Word).getLsbD (1 - 1 - j) := by decide

theorem witness_Multiply_most : ((testCells [5, 0x80000000]).setCt 32).ct = BitVec.ofNat 32 32 ∧
    ∀ j, j < 32 → (1#32).getLsbD j = (0x80000000 : Word).getLsbD (32 - 1 - j) := by decide

/-- `testBase` with g0 = 7. -/
def testG0 (cells : List Word) : State := (testCells cells).setG (testBase.g.set 0 7)

theorem witness_Divide : testBase.g[0] = 0 ∧ (6 : Word).toNat < (testG0 [6, 1]).g[0].toNat ∧
    (testG0 [7, 1]).g[0] ≠ 0 ∧ (testG0 [7, 1]).g[0].toNat ≤ (7 : Word).toNat ∧
    (testG0 [7, 1]).os.cells = 7 :: 1 :: [] ∧ (testG0 [7, 1]).os.active = true := by decide

theorem witness_Branches : (groupByte 0x07EAEAEA 0).toNat / 8 = 0 ∧ (groupByte 0xEA08EAEA 1).toNat / 8 = 1 ∧
    (groupByte 0xEAEA17EA 2).toNat / 8 = 2 ∧ (groupByte 0xEAEAEA1F 3).toNat / 8 = 3 ∧
    (testCells [0, 1]).os.cells = 0 :: [1] ∧ (testCells [0, 1]).os.active = true := by decide

/-- A group whose last byte alone is a `push.l`, and one whose byte 2 is; entered at byte 3. -/
def testLit (s : State) : State := testMem [(0x3000, 0xEAEAEA4F), (0x4000, 0xEAEA4FEA)] s

/-- The same with a bus that faults, and the memory-fault trap enabled. -/
def testLitFaults (s : State) : State := testBus [testFaulting] ((testLit s).setMode 0x08000000)

theorem witness_IndirectTransfers : (testLit (testCells [0x3003, 1])).os.cells = 0x3003 :: [1] ∧
    LiteralFree (group (enterGroup 0x3003 ((testLit (testCells [0x3003, 1])).stack [1]))) 0x3003 ∧
    (testLit (testLocals [0x3003, 1])).ls.cells = 0x3003 :: [1] ∧ (testLit (testLocals [0x3003, 1])).ls.active = true ∧
    LiteralFree (group (enterGroup 0x3003 ((testLit (testLocals [0x3003, 1])).locals [1]))) 0x3003 := by
  unfold LiteralFree; decide

theorem witness_IndirectTransfers_fault : fetchTraps (testLitFaults (testCells [0x4003, 1])) = true ∧
    (testLitFaults (testCells [0x4003, 1])).os.cells = 0x4003 :: [1] ∧
    fetchTraps (testLitFaults (testLocals [0x4003, 1])) = true ∧
    (enterGroup 0x4003 (testBus [{ testFaulting with dval := false }] (testLit (testCells [1])))).plat.stuck = true := by
  decide

theorem witness_Literals : groupByte 0xEAEA90FF 2 = 0x90 ∧ (2 : BitVec 2) ≠ 3 ∧
    literalTaken (testOp 0x4F testBase) = false ∧ (busRead (testOp 0x4F testBase).flow.npc (testOp 0x4F testBase)) =
      ((busRead (testOp 0x4F testBase).flow.npc (testOp 0x4F testBase)).1, testOp 0x4F testBase) := by decide

theorem witness_LocalRegisters : (14 : Fin 16).val < 15 ∧ (2 : Fin 16).val < testBase.ls.cells.length ∧
    (testLocals [0x77]).ls.cells = 0x77 :: [] ∧ (testLocals [0x77]).ls.active = true := by decide

theorem witness_Loads : busRead (0xA : Word) testBase = (0, testBase) ∧ busRead testBase.x testBase = (0, testBase) ∧
    busRead (testBase.x - 4) testBase = (0, testBase) ∧ testBase.ls.cells = 0x77 :: [0x78, 0x79] ∧
    busRead (0x77 : Word) testBase = (0, testBase) ∧ busRead (0x77 - 4 : Word) testBase = (0, testBase) ∧
    readFaults testBase = false := by decide

/-- The cells next to the one at `npc`, from both sides. -/
theorem witness_Stores : testBase.flow.npc = 0x1004 ∧ (0x1003 : Word).toNat / 4 ≠ testBase.flow.npc.toNat / 4 ∧
    (0x1008 : Word).toNat / 4 ≠ testBase.flow.npc.toNat / 4 ∧
    (testBase.setX 0x1008).x.toNat / 4 ≠ testBase.flow.npc.toNat / 4 ∧
    ((testBase.setX 0x1004).x - 4).toNat / 4 ≠ testBase.flow.npc.toNat / 4 ∧
    (testCells [0x1003, 7]).os.cells = 0x1003 :: 7 :: [] ∧ (testLocals [0x1008]).ls.cells = 0x1008 :: [] := by decide

theorem witness_StoreMemory : Memory.wf testBase.mem = true ∧ storeTarget .stS0 (testCells [0x1003, 7]) = some (0x1003, 7) ∧
    testRuns (exec .stS0 (testCells [0x1003, 7])) = true ∧
    storeTarget .stDecR0 (testLocals [0]) = some (0xFFFFFFFC, 0xA) ∧
    testRuns (exec .stDecR0 (testLocals [0])) = true := by decide

/-- A posted write at 0x2000, with the platform's answer `ans`. -/
def testPosted (ans : BusAnswer) : State :=
  busWrite 0x2000 7 (testBus [ans] (testBase.setRes { testBase.res with mspwe := true }))

theorem witness_BusTransfers : testBase.res.mspwe = false ∧
    (testBase.setRes { testBase.res with mspwe := true }).res.mspwe = true ∧ testBase.plat.posted = none ∧
    testBase.plat.stuck = false ∧ (testBus [testFaulting] testBase).plat.bus = testFaulting :: [] ∧
    testFaulting.dval = true ∧ testFaulting.faultb = true ∧
    (testBus [{ testFaulting with dval := false }] testBase).plat.bus = { testFaulting with dval := false } :: [] ∧
    (hang testBase).plat.stuck = true ∧ (hang testBase).plat.env = [] ∧ (hang testBase).plat.posted = none ∧
    (hang (testReset true)).plat.env ≠ [] := by decide

/-- A posted write that will fault at once, one that ends after two instructions, one that never ends. -/
theorem witness_BusTransfers_posted :
    (testPosted testFaulting).plat.posted =
      some { addr := 0x2000, data := 7, dval := true, faultb := true, late := 0 } ∧
    (testPosted { testFaulting with faultb := false, late := 2 }).plat.posted =
      some { addr := 0x2000, data := 7, dval := true, faultb := false, late := 1 + 1 } ∧
    (testPosted { testFaulting with dval := false }).plat.posted =
      some { addr := 0x2000, data := 7, dval := false, faultb := true, late := 0 } := by decide

/-- Three spills from a pointer whose last one stands just above the cell at `npc`. -/
def testSpills : State := testBase.setOs { testBase.os with ptr := 0x1010 }

theorem witness_Spills : testSpills.busQuiet ∧ Memory.wf testSpills.mem = true ∧ (stackOf .os testSpills).cells.length - 2 = 3 ∧
    ∀ j : Nat, j < 3 → ((stackOf .os testSpills).ptr - BitVec.ofNat 32 (4 * j)).toNat / 4 ≠
      testSpills.flow.npc.toNat / 4 := by
  unfold State.busQuiet; decide

theorem witness_CacheOps : 15 ≤ (stackOf .ls testFull).cells.length ∧ (stackOf .ls testFull).cells.length ≤ 15 ∧
    (1 ≤ (1 : Word).toInt ∧ (14 : Word).toInt ≤ 14 ∧ -14 ≤ (0xFFFFFFF2 : Word).toInt ∧
      (0xFFFFFFFF : Word).toInt ≤ -1) ∧
    (testCells [0xFFFFFFF2, 1]).os.cells = 0xFFFFFFF2 :: [1] ∧
    testRuns (trim 0x1004 .ls (15 - (-(0xFFFFFFF2 : Word).toInt).toNat) ((testCells [0xFFFFFFF2, 1]).stack [1])) = true ∧
    testRuns (trim 0x1004 .os (2 + (15 - (-(0xFFFFFFFF : Word).toInt).toNat)) (testFull.stack (0xFFFFFFFF :: testFull.os.cells.tail)))
      = true := by decide

theorem witness_Frames : 1 ≤ (1 : Word).toInt ∧ (15 : Word).toInt ≤ 15 ∧ (0xFFFFFFF1 : Word).toInt = -((15 : Nat) : Int) ∧
    (0xFFFFFFFF : Word).toInt = -((1 : Nat) : Int) ∧ testBase.ls.active = true ∧
    (testCells [0xFFFFFFF1, 9]).os.cells = 0xFFFFFFF1 :: 9 :: [] ∧ (testCells [0xFFFFFFF1, 9]).os.active = true := by
  decide

theorem witness_StackPointers : (testCells [0xFFFFFFFF, 2, 1]).os.cells = 0xFFFFFFFF :: 2 :: 1 :: [] ∧
    (testCells [2, 1]).busQuiet ∧ (testCells [2, 1]).os.cells = [2, 1] ∧ (testCells [2, 1]).os.active = true ∧
    (testCells [2, 1]).lsWithin ∧ testRuns (normalize 0x1004 (testCells [2, 1])) = true ∧
    (testLocals []).busQuiet ∧ (testLocals []).osWithin ∧ (testLocals []).ls.cells = [] ∧
    (testLocals []).ls.active = true ∧ testRuns (normalize 0x1004 (testLocals [])) = true := by
  unfold State.busQuiet State.osWithin State.lsWithin; decide

/-- FloatExponents, FloatFields: both precisions. -/
theorem witness_precisions : (testCells [1, 2]).double = false ∧ (testDouble [1, 2]).double = true ∧
    (testDouble [1, 2]).os.cells = 1 :: 2 :: [] ∧ (testDouble [1, 2]).os.active = true := by decide

/-- The greatest count that shifts and the least that does not, in both precisions. -/
theorem witness_Denormalize : ((testCells [1]).setCt 0x0D000000).ct.toNat / 2 ^ 23 % 256 = 26 ∧
    ((testCells [1]).setCt 0x0D800000).ct.toNat / 2 ^ 23 % 256 = 27 ∧ ((testCells [1]).setCt 0x0D800000).double = false ∧
    ((testDouble [1, 2]).setCt 0x03700000).ct.toNat / 2 ^ 20 % 2048 = 55 ∧
    ((testDouble [1, 2]).setCt 0x03800000).ct.toNat / 2 ^ 20 % 2048 = 56 ∧
    ((testDouble [1, 2]).setCt 0x03800000).double = true := by decide

/-- No shift, and the longest one, in both precisions. -/
theorem witness_NormalizeRight : ((0x80FFFFFF : Word) >>> 0) &&& 0x7F000000 = 0 ∧
    ((0x40000000 : Word) >>> 7) &&& 0x7F000000 = 0 ∧
    (∀ j : Nat, j < 7 → ((0x40000000 : Word) >>> j) &&& 0x7F000000 ≠ 0) ∧
    (((0x40000000 : Word) ++ (1 : Word) : BitVec 64) >>> 10) &&& 0x7FE0000000000000 = 0 ∧
    (∀ j : Nat, j < 10 → (((0x40000000 : Word) ++ (1 : Word) : BitVec 64) >>> j) &&& 0x7FE0000000000000 ≠ 0) ∧
    (testCells [0x40000000]).os.cells = 0x40000000 :: [] ∧ (testCells [0x40000000]).double = false ∧
    (testDouble [0x40000000, 1]).os.cells = 0x40000000 :: 1 :: [] ∧ (testDouble [0x40000000, 1]).double = true := by
  decide

/-- A significand of which only `sticky` is set, in both precisions: the longest shift; and none at all. -/
theorem witness_NormalizeLeft :
    ((0 : Word) ++ BitVec.ofNat 3 (eighths (grsOf ((testCells [0]).withGrs ⟨false, false, true⟩).mode))).getLsbD (26 - 26)
      = true ∧
    (∀ j : Nat, j < 26 →
      ((0 : Word) ++ BitVec.ofNat 3 (eighths (grsOf ((testCells [0]).withGrs ⟨false, false, true⟩).mode))).getLsbD (26 - j)
        = false) ∧
    ((0x00800000 : Word) ++ BitVec.ofNat 3 (eighths (grsOf testBase.mode))).getLsbD (26 - 0) = true ∧
    ((0 : Word) ++ (0 : Word) ++
      BitVec.ofNat 3 (eighths (grsOf ((testDouble [0, 0]).withGrs ⟨false, false, true⟩).mode))).getLsbD (55 - 55) = true ∧
    (∀ j : Nat, j < 55 → ((0 : Word) ++ (0 : Word) ++
      BitVec.ofNat 3 (eighths (grsOf ((testDouble [0, 0]).withGrs ⟨false, false, true⟩).mode))).getLsbD (55 - j)
        = false) ∧
    ((testDouble [0, 0]).withGrs ⟨false, false, true⟩).double = true ∧
    ((testCells [0]).withGrs ⟨false, false, true⟩).double = false := by decide

theorem witness_Debugging : (testLit (testLocals [0x3003, 1])).ls.cells = 0x3003 :: [1] ∧
    LiteralFree (group (enterGroup 0x3003 (((testLit (testLocals [0x3003, 1])).locals [1]).setCtl
      { testBase.ctl with stepPending := true }))) 0x3003 := by
  unfold LiteralFree; decide

theorem witness_SingleStep : (testLocals (List.replicate 14 (1 : Word))).busQuiet ∧
    (testLocals (List.replicate 14 (1 : Word))).osWithin ∧ (testLocals (List.replicate 14 (1 : Word))).lsWithin ∧
    (testLocals (List.replicate 14 (1 : Word))).ls.cells.length < 15 ∧
    (testLocals (List.replicate 14 (1 : Word))).plat.stuck = false ∧
    (testLocals (List.replicate 14 (1 : Word))).ctl.pending = [] ∧ Instr.nop ≠ .step ∧ Instr.nop ≠ .bkpt := by
  unfold State.busQuiet State.osWithin State.lsWithin; decide

/-- `step` to a group whose fetch faults, with the memory-fault trap enabled. -/
def testTrapAtStep : State :=
  testOp 0x34 (testBus [testFaulting] ((testLocals [0x3000, 1]).setMode 0x08000000))

/-- The state that a result answers, or `testBase`. -/
def testState (r : Result) : State :=
  match r with
  | .next t => t
  | _ => testBase

theorem witness_SingleStep_refused : testTrapAtStep.plat.stuck = false ∧ testTrapAtStep.flow.grp = some 0x34EAEAEA ∧
    (takeInput testTrapAtStep).1.reset = none ∧ testTrapAtStep.ctl.pending = [] ∧
    (recognize (testInput testTrapAtStep)).1 = none ∧ decode 0x34EAEAEA (byteIndex testTrapAtStep.flow.pc) = .ok .step ∧
    testRuns (exec .step (beginInstr (recognize (testInput testTrapAtStep)).2)) = true ∧
    testRuns (normalize testTrapAtStep.flow.npc
      (testState (exec .step (beginInstr (recognize (testInput testTrapAtStep)).2)))) = true ∧
    (postedTick (testState (normalize testTrapAtStep.flow.npc
      (testState (exec .step (beginInstr (recognize (testInput testTrapAtStep)).2)))))).ctl.pending ≠ [] ∧
    (testState (normalize testTrapAtStep.flow.npc
      (testState (exec .step (beginInstr (recognize (testInput testTrapAtStep)).2))))).plat.stuck = false := by decide

/-- `testBase` after a memory fault at 0xFFFFFFFF. -/
def testLatched (cells : List Word) : State := memFault true 0xFFFFFFFF 5 (testCells cells)

theorem witness_ResourceReads : (0x080 : Word) = BitVec.ofNat 32 (baseOf .ioie) ∧
    (testLatched [0x120]).res.mfltLatched = true ∧ (testLatched [0x120]).os.cells = 0x120 :: [] ∧
    (0x087 : Word) = BitVec.ofNat 32 (baseOf .ioie + (7 : Fin 8).val) ∧
    (0x000 : Word) = BitVec.ofNat 32 (baseOf .ioin + (0 : Fin 8).val) := by decide

theorem witness_ResourceWrites : (testCells [0x080, 0xFFFFFFFF]).os.cells = 0x080 :: 0xFFFFFFFF :: [] ∧
    (testCells [0x080, 0xFFFFFFFF]).os.active = true ∧ (0x080 : Word) = BitVec.ofNat 32 (baseOf .ioie) ∧
    (0x000 : Word) = BitVec.ofNat 32 (baseOf .ioin) ∧ (0x087 : Word) = BitVec.ofNat 32 (baseOf .ioie + (7 : Fin 8).val) ∧
    ((0x140 : Word) = 0x120 ∨ (0x140 : Word) = 0x140) := by decide

theorem witness_UnassignedRefused : (Instr.unassigned43, 0x43#8) ∈ [(Instr.unassigned43, 0x43#8)] ∧
    groupByte 0xEAEAEAFF 3 = 0xF#4 ++ 0xF#4 := by decide

/-- After reset neither stack is allocated; and an address behind a `push.l`. -/
theorem witness_Refused_unallocated : shrinksOperands .add = true ∧ State.reset.os.active = false ∧
    shrinksLocals .ret = true ∧ State.reset.ls.active = false ∧
    (0xFFFFFFF1 : Word).toInt = -15 ∧ (0xFFFFFFFF : Word).toInt = -1 ∧
    ((testCells [0xFFFFFFF1]).setLs State.reset.ls).ls.active = false ∧ (testCells [0xFFFFFFF1]).os.active = true := by
  decide

theorem witness_Refused_midGroup : (testLit (testLocals [0x4003, 1])).ls.cells = 0x4003 :: [1] ∧
    (testLit (testLocals [0x4003, 1])).ls.active = true ∧ fetchTraps (testLit (testLocals [0x4003, 1])) = false ∧
    ¬ LiteralFree (group (enterGroup 0x4003 ((testLit (testLocals [0x4003, 1])).locals [1]))) 0x4003 ∧
    (enterGroup 0x4003 ((testLit (testLocals [0x4003, 1])).locals [1])).plat.stuck = false ∧
    (testLit (testCells [0x4003, 1])).os.cells = 0x4003 :: [1] ∧ fetchTraps (testLit (testCells [0x4003, 1])) = false ∧
    ¬ LiteralFree (group (enterGroup 0x4003 ((testLit (testCells [0x4003, 1])).stack [1]))) 0x4003 ∧
    (enterGroup 0x4003 ((testLit (testCells [0x4003, 1])).stack [1])).plat.stuck = false := by
  unfold LiteralFree; decide

/-- A stack with one cell too many, whose pointer is the cell at `npc`. -/
theorem witness_Refused_spill : 17 < (testFull.setOs
      { cells := List.replicate 18 (7 : Word), ptr := 0x1004, active := true }).os.cells.length ∧
    (0x1004 : Word).toNat / 4 = testFull.flow.npc.toNat / 4 ∧ testFull.osWithin ∧
    15 < (testFull.setLs { cells := List.replicate 16 (7 : Word), ptr := 0x1007, active := true }).ls.cells.length ∧
    (0x1007 : Word).toNat / 4 = testFull.flow.npc.toNat / 4 ∧ (spillRaw .os (testFull.setOs
      { cells := List.replicate 18 (7 : Word), ptr := 0x1004, active := true })).plat.stuck = false ∧
    (spillRaw .ls (testFull.setLs
      { cells := List.replicate 16 (7 : Word), ptr := 0x1007, active := true })).plat.stuck = false := by
  unfold State.osWithin; decide

theorem witness_Refused_prefetch : storeTarget .stS0 (testCells [0x1004, 7]) = some (0x1004, 7) ∧
    storeTarget .stX (testBase.setX 0x1007) = some (0x1007, 0xA) ∧
    (0x1007 : Word).toNat / 4 = testBase.flow.npc.toNat / 4 ∧ testBase.os.active = true ∧
    (busWrite 0x1007 0xA (storeState .stX (testBase.setX 0x1007))).plat.stuck = false ∧
    (busWrite 0x1007 0xA (hang (testBase.setX 0x1007))).plat.stuck = true := by decide

/-- `npc` has already moved past the literal. -/
theorem witness_Refused_microLoop :
    literalTaken ((testOp 0x4F testBase).setFlow { (testOp 0x4F testBase).flow with npc := 0x1008 }) = true := by decide

theorem witness_Refused_counts : ((0xFFFFFFF1 : Word).toInt < -14 ∧ 14 < (15 : Word).toInt) ∧
    ((0xFFFFFFF0 : Word).toInt < -15 ∧ 15 < (16 : Word).toInt) ∧
    (0x081 : Word) ∉ [0x000#32, 0x020#32, 0x040#32, 0x060#32, 0x080#32, 0x120#32, 0x140#32, 0x1A0#32] ∧
    (0x088 : Word).toNat / 8 ∉ [0, 4, 8, 12, 16] ∧ (testCells [0x088]).os.cells = 0x088 :: [] := by decide

theorem witness_OpenValues_mulfs : (testCells [5, 1]).ct = 0 ∧ 32 < ((testCells [5, 1]).setCt 33).ct.toNat ∧
    (testCells [5, 1]).os.cells = 5 :: 1 :: [] ∧ (testCells [5, 1]).os.active = true := by decide

theorem witness_OpenValues_norml : grsOf (testCells [0xFF000000, 1]).mode = ⟨false, false, false⟩ ∧
    (testCells [0xFF000000, 1]).double = false ∧ (0xFF000000 : Word) &&& 0x00FFFFFF = 0 ∧
    grsOf (testDouble [0xFFE00000, 0]).mode = ⟨false, false, false⟩ ∧ (testDouble [0xFFE00000, 0]).double = true ∧
    (0xFFE00000 : Word) &&& 0x001FFFFF = 0 ∧ (testDouble [0xFFE00000, 0]).os.cells = 0xFFE00000 :: 0 :: [] := by decide

theorem witness_OpenValues_reads : State.reset.os.cells = [0, 0] ∧ State.reset.res.mfltLatched = false ∧
    (testCells [0x120]).os.cells = 0x120 :: [] ∧ (testCells [0x120]).res.mfltLatched = false := by decide

theorem witness_OpenValues_loads : readFaults (testBus [testFaulting] (testCells [0x3001])) = true ∧
    (testCells [0x3001]).os.cells = 0x3001 :: [] := by decide

theorem witness_Signalling : testBase.ctl.enOld = none ∧
    (noteTrapEnables testBase).ctl.enOld = some testBase.mode ∧ (Trap.fpRnd, 12, 11) ∈ trapTable ∧ (Trap.osOvf, 16, 17) ∈ trapTable := by decide

/-- The last cell that counts for a spill, the first that counts for a refill, the boundary bit set, and the middle. -/
theorem witness_PageExceptions : (Trap.osOvf, 16, 17, 20) = pageException .os true ∧
    (Trap.lsUnf, 23, 24, 25) = pageException .ls false ∧
    (!testBase.mode.getLsbD 20 && decide ((0x7C : Word).toNat % 1024 / 128 = if true then 0 else 7)) = true ∧
    (!testBase.mode.getLsbD 20 && decide ((0x80 : Word).toNat % 1024 / 128 = if true then 0 else 7)) = false ∧
    (!testBase.mode.getLsbD 25 && decide ((0x380 : Word).toNat % 1024 / 128 = if false then 0 else 7)) = true ∧
    (!(testBase.setMode 0x02000000).mode.getLsbD 25 && decide ((0x380 : Word).toNat % 1024 / 128 = if false then 0 else 7))
      = false ∧
    ((0x204 : Word) - 4).toNat % 1024 / 128 = 4 := by decide

theorem witness_TrapOrder : Trap.memFault ≠ Trap.fpRnd ∧ trapBelow .step .memFault = true ∧
    trapBelow .memFault .osOvf = true ∧ trapBelow .step .osOvf = true ∧
    Trap.osOvf ∈ [Trap.osOvf, .osUnf, .lsOvf, .lsUnf] ∧ Trap.memFault ∉ [Trap.osOvf, .osUnf, .lsOvf, .lsUnf] := by decide

/-- Two traps pending over thirteen local registers. -/
def testPending : State :=
  (testLocals (List.replicate 13 (1 : Word))).setCtl { testBase.ctl with pending := [.memFault, .osOvf] }

theorem witness_TrapNesting : testPending.busQuiet ∧ testPending.osWithin ∧ testPending.ctl.pending ≠ [] ∧
    testPending.ctl.pending.Nodup ∧ testPending.ls.cells.length + testPending.ctl.pending.length ≤ 15 := by
  unfold State.busQuiet State.osWithin; decide

/-- Interrupt requests `ip`, with those of `ius` under service and interrupts enabled. -/
def testInts (ip ius : Byte) : State :=
  (testBase.setMode 0x2000).setRes { testBase.res with ioip := ip, ioius := ius }

/-- Each reason for which no interrupt is taken. -/
theorem witness_InterruptEntry_not : (testAt 0xEAEAEAEA 0x1001 (testInts 1 0)).flow.pc.toNat % 4 ≠ 0 ∧
    (testInts 1 0).blocked.ctl.intBlock = true ∧
    ((testInts 1 0).setCtl { testBase.ctl with stepPending := true }).ctl.stepPending = true ∧
    (testBase.ctl.ieOld = none ∧ testBase.mode.getLsbD 13 = false) ∧
    (∀ p : Fin 8, (testInts 0x0C 0x04).res.ioip.getLsbD p.val = true →
      ∃ q : Fin 8, q ≤ p ∧ (testInts 0x0C 0x04).res.ioius.getLsbD q.val = true) := by decide

/-- The hypotheses of an entry, for interrupt `p`. -/
def testEntry (s u : State) (p : Fin 8) : Prop :=
  s.plat.stuck = false ∧ s.flow.grp = some 0xEAEAEAEA ∧ (takeInput s).1.reset = none ∧ s.ctl.pending = [] ∧
  s.flow.pc.toNat % 4 = 0 ∧ s.ctl.intBlock = false ∧ s.ctl.stepPending = false ∧ s.ctl.ieOld = none ∧
  s.mode.getLsbD 13 = true ∧ u.res.ioip.getLsbD p.val = true ∧ (∀ q : Fin 8, q < p → u.res.ioip.getLsbD q.val = false) ∧
  (∀ q : Fin 8, q ≤ p → u.res.ioius.getLsbD q.val = false) ∧ s.busQuiet ∧ s.osWithin ∧ s.ls.cells.length < 15

theorem witness_InterruptEntry :
    testEntry (testInts 0xFF 0)
      (samplePins (takeInput (testInts 0xFF 0)).1.samples (takeInput (testInts 0xFF 0)).2) 0 ∧
    testEntry (testInts 0x80 0)
      (samplePins (takeInput (testInts 0x80 0)).1.samples (takeInput (testInts 0x80 0)).2) 7 := by
  unfold testEntry State.busQuiet State.osWithin; decide

theorem witness_InputSampling : ([0xFE] : List Byte) ≠ [] ∧ (testInts 1 0).res.ioip.getLsbD (0 : Fin 8).val = true := by
  decide

/-- OnlyWriters, ModeWriters; each class of bits has an instruction outside it. -/
theorem witness_writers : testRuns (exec (.popG 15) testBase) = true ∧ testRuns (exec .add testBase) = true ∧
    writesMemory .add = false ∧ writesResource .reti = false ∧ writesResource .add = false ∧ writesCarry .nop = false ∧
    writesEnable .add = false ∧ Instr.add ≠ .popMode ∧ Instr.add ≠ .reti ∧ 12 ∈ signalBits ∧
    12 ∉ maySignal .add ∧ writesGrs .add = false ∧ writesBoundary .os .add = false ∧ writesBoundary .ls .add = false ∧
    (testBase.setMode 0x1000).mode.getLsbD 12 = true := by decide

/-! The numbering of spec/opcode_table.json, in which the first byte of an instruction holds its bits 7 to 0 (log 40). -/

theorem test_tableWord_op : decodeTableWord 8 0xC0 = some .add := by decide
/-- `call` at byte 0 with the offset bytes 12, 34, 56, which the table counts from the first byte on. -/
theorem test_tableWord_offset : decodeTableWord 32 0x56341209 = some (.callOffset (.w27 0x1123456)) := by decide
theorem test_fetchWord : testNext (step (State.reset.withFetchWord 8 0x23))
    (fun s => s.flow.pc == 0x80000009 && s.os.cells.take 1 == [3]) = true := by decide
/-- The first instruction after reset may be a `push.l`; its literal cell is zero. -/
theorem test_fetchWord_pushL : testNext (step (State.reset.withFetchWord 8 0x4F))
    (fun s => s.flow.npc == 0x80000010 && s.os.cells.take 1 == [0]) = true := by decide
end

section
/-! Facts about single operations on which the proofs of this family rest: the bits of `mode`, the bus, alignment. -/

namespace Sys2Proof.Machine

/-! The bits of `mode` (10_state.md R40). -/

/-- Setting or clearing bit `k` of a value changes that bit only. -/
theorem getLsbD_ite_bit {w : Nat} (v : BitVec w) {k : Nat} (hk : k < w) (b : Bool) (j : Nat) :
    (if b then v ||| (1#w <<< k) else v &&& ~~~(1#w <<< k)).getLsbD j = if j = k then b else v.getLsbD j := by
  have hone : (1#w <<< k).getLsbD j = decide (j = k) := by
    rw [← BitVec.twoPow_eq, BitVec.getLsbD_twoPow]
    simp only [hk, decide_true, Bool.true_and, decide_eq_decide]
    exact eq_comm
  cases b
  · simp only [Bool.false_eq_true, if_false, BitVec.getLsbD_and, BitVec.getLsbD_not, hone]
    by_cases hj : j = k
    · simp [hj]
    · by_cases hw : j < w
      · simp [hj, hw]
      · simp [hj, BitVec.getLsbD_of_ge v j (by omega)]
  · simp only [if_true, BitVec.getLsbD_or, hone]
    by_cases hj : j = k <;> simp [hj]

theorem getLsbD_putBit (w : Word) {k : Nat} (hk : k < 32) (b : Bool) (j : Nat) :
    (putBit w k b).getLsbD j = if j = k then b else w.getLsbD j := getLsbD_ite_bit w hk b j

theorem getLsbD_putByteBit (w : Byte) {k : Nat} (hk : k < 8) (b : Bool) (j : Nat) :
    (putByteBit w k b).getLsbD j = if j = k then b else w.getLsbD j := getLsbD_ite_bit w hk b j

/-- Signalling sets the signal bit (60_exceptions.md R451). -/
theorem signal_mode (s : State) {x : Trap} {sig en : Nat} (hx : trapBits x = some (sig, en)) :
    (signal x s).mode = putBit s.mode sig true := by
  simp only [signal, hx]
  split <;> simp

/-- The positions that `trapBits` names are bits of `mode`. -/
theorem trapBits_lt {x : Trap} {sig en : Nat} (hx : trapBits x = some (sig, en)) : sig < 32 ∧ en < 32 := by
  cases x <;> cases hx <;> decide

/-- A trap is pending after `addPending` when it is the one added, or was pending before. -/
theorem mem_addPending (s : State) (x u : Trap) :
    u ∈ (addPending x s).ctl.pending ↔ u ∈ s.ctl.pending ∨ u = x := by
  unfold addPending
  split
  · rename_i hmem
    exact ⟨Or.inl, fun h => h.elim id fun hu => hu ▸ hmem⟩
  · simp

/-- Signalling makes the trap pending exactly if it is enabled (R451). -/
theorem mem_signal_pending (s : State) {x : Trap} {sig en : Nat} (hx : trapBits x = some (sig, en)) (u : Trap) :
    u ∈ (signal x s).ctl.pending ↔ u ∈ s.ctl.pending ∨ (u = x ∧ (trapEnables s).getLsbD en = true) := by
  simp only [signal, hx]
  split
  · rename_i hen
    simp [mem_addPending, hen]
  · rename_i hen
    simp [hen]

theorem boundaryBit_lt (k : Stk) : boundaryBit k < 32 := by cases k <;> decide

/-! What a bus transfer can do to `mode` and to the latch of the fault registers. -/

/-- Between two states at most memory faults have been reported (60_exceptions.md R460): of `mode` only the signal bit
and `mflt_write` may differ, a signal is not taken back, and where `mflt_write` differs a fault is signalled and latched. -/
structure FaultAtMost (s t : State) : Prop where
  bits : ∀ k : Nat, k ≠ 26 → k ≠ 31 → t.mode.getLsbD k = s.mode.getLsbD k
  sticky : s.mode.getLsbD 26 = true → t.mode.getLsbD 26 = true
  latch : s.res.mfltLatched = true → t.res.mfltLatched = true
  kind : t.mode.getLsbD 31 = s.mode.getLsbD 31 ∨ (t.mode.getLsbD 26 = true ∧ t.res.mfltLatched = true)

namespace FaultAtMost

/-- Nothing is reported where `mode` and the latch are as before. -/
theorem of_eq {s t : State} (hm : t.mode = s.mode) (hl : t.res.mfltLatched = s.res.mfltLatched) : FaultAtMost s t :=
  ⟨fun _ _ _ => by rw [hm], fun h => by rw [hm, h], fun h => by rw [hl, h], .inl (by rw [hm])⟩

theorem trans {s t u : State} (h : FaultAtMost s t) (h' : FaultAtMost t u) : FaultAtMost s u where
  bits k h26 h31 := (h'.bits k h26 h31).trans (h.bits k h26 h31)
  sticky hs := h'.sticky (h.sticky hs)
  latch hs := h'.latch (h.latch hs)
  kind := by
    rcases h'.kind with hsame | hfault
    · rcases h.kind with hsame' | ⟨hsig, hlat⟩
      · exact .inl (hsame.trans hsame')
      · exact .inr ⟨h'.sticky hsig, h'.latch hlat⟩
    · exact .inr hfault

end FaultAtMost

theorem memFault_mode (w : Bool) (a d : Word) (s : State) :
    (memFault w a d s).mode = putBit (putBit s.mode bitMfltWrite w) bitMfltSig true := by
  simp [memFault, signal_mode _ (x := .memFault) rfl]

theorem memFault_res (w : Bool) (a d : Word) (s : State) :
    (memFault w a d s).res = { s.res with mfltaddr := a, mfltdata := d, mfltLatched := true } := by
  simp [memFault]

theorem memFault_faultAtMost (w : Bool) (a d : Word) (s : State) : FaultAtMost s (memFault w a d s) where
  bits k h26 h31 := by
    rw [memFault_mode, getLsbD_putBit _ (by decide), getLsbD_putBit _ (by decide), if_neg h26, if_neg h31]
  sticky _ := by rw [memFault_mode, getLsbD_putBit _ (by decide), if_pos rfl]
  latch _ := by rw [memFault_res]
  kind := .inr ⟨by rw [memFault_mode, getLsbD_putBit _ (by decide), if_pos rfl], by rw [memFault_res]⟩

theorem finishPosted_faultAtMost (s : State) : FaultAtMost s (finishPosted s) := by
  unfold finishPosted
  split
  · exact .of_eq rfl rfl
  · split
    · split
      · refine .trans ?_ (memFault_faultAtMost _ _ _ _)
        exact .of_eq rfl rfl
      · exact .of_eq rfl rfl
    · exact .of_eq rfl rfl

theorem busReady_faultAtMost (s : State) : FaultAtMost s (busReady s) :=
  (finishPosted_faultAtMost s).trans (.of_eq rfl rfl)

theorem busRead_faultAtMost (a : Word) (s : State) : FaultAtMost s (busRead a s).2 := by
  unfold busRead
  simp only []
  split
  · exact finishPosted_faultAtMost s
  · refine (busReady_faultAtMost s).trans ?_
    split
    · exact .of_eq rfl rfl
    · split
      · refine .trans ?_ (memFault_faultAtMost _ _ _ _)
        exact .of_eq rfl rfl
      · exact .of_eq rfl rfl

/-- The end of a write, posted or not, reports at most its own fault. -/
theorem endWrite_faultAtMost (posts hangs faults : Bool) (p : Platform) (a v : Word) (u : State) :
    FaultAtMost u (if posts then u.setPlat p else if hangs then hang u
      else if faults then memFault true a v u else u) := by
  split
  · exact .of_eq rfl rfl
  · split
    · exact .of_eq rfl rfl
    · split
      · exact memFault_faultAtMost true a v u
      · exact .of_eq rfl rfl

theorem busWrite_faultAtMost (a v : Word) (s : State) : FaultAtMost s (busWrite a v s) := by
  unfold busWrite
  simp only []
  split
  · exact finishPosted_faultAtMost s
  · refine (busReady_faultAtMost s).trans (.trans ?_ (endWrite_faultAtMost _ _ _ _ _ _ _))
    split <;> exact .of_eq rfl rfl

theorem enterGroup_faultAtMost (a : Word) (s : State) : FaultAtMost s (enterGroup a s) :=
  (busRead_faultAtMost a s).trans (.of_eq rfl rfl)

theorem advance_faultAtMost (s : State) : FaultAtMost s (advance s) := by
  unfold advance
  split
  · exact enterGroup_faultAtMost _ s
  · exact .of_eq rfl rfl

/-! Alignment (00_scope.md R12). -/

theorem cellAligned_iff (a : Word) : cellAligned a ↔ a.toNat % 4 = 0 := by
  have h : (a &&& 3).toNat = a.toNat % 4 := by
    rw [BitVec.toNat_and]
    exact Nat.and_two_pow_sub_one_eq_mod a.toNat 2
  rw [cellAligned, ← h, ← BitVec.toNat_inj]
  rfl

theorem cellAligned_add {a b : Word} (ha : cellAligned a) (hb : cellAligned b) : cellAligned (a + b) := by
  rw [cellAligned_iff] at *
  rw [BitVec.toNat_add]
  omega

theorem cellAligned_ofNat (n : Nat) : cellAligned (BitVec.ofNat 32 (4 * n)) := by
  rw [cellAligned_iff, BitVec.toNat_ofNat]
  omega

theorem cellAligned_sub_four {a : Word} (ha : cellAligned a) : cellAligned (a - 4) := by
  rw [cellAligned_iff] at *
  rw [BitVec.toNat_sub]
  have : (4 : Word).toNat = 4 := rfl
  omega

theorem cellAligned_cellAddress (a : Word) : cellAligned (Memory.cellAddress a) := by
  rw [cellAligned_iff, Memory.cellAddress_toNat]
  omega

theorem cellAligned_cellAddress_add_four (a : Word) : cellAligned (Memory.cellAddress a + 4) :=
  cellAligned_add (cellAligned_cellAddress a) (cellAligned_ofNat 1)

end Sys2Proof.Machine
end

section
/-! What an instruction can do: a chain of elementary actions, each allowed by the instruction's class
(`Obligations.OnlyWriters`, `Obligations.ModeWriters`, `Obligations.StepKeepsInv`). -/

namespace Sys2Proof.Machine

/-- Is the exception of a trap among those an instruction may signal (48_float.md R415)? -/
def signalsTrap (i : Instr) (x : Trap) : Bool := (trapBits x).all fun p => (maySignal i).contains p.1

/-- An operand stack that still has s0 and s1 on chip, or is allocated, so that `Normalize` refills it (10_state.md R29,
R35). -/
def Stack.refillable (st : Stack) : Prop := 2 ≤ st.cells.length ∨ st.active = true

/-- The exception of a spill or of a refill (60_exceptions.md R455). -/
def pageTrap (k : Stk) (spilled : Bool) : Trap := if spilled then overflowTrap k else underflowTrap k

/-- Does a spill to `a` or a refill from `a` cross into the edge of a page while the boundary bit is clear (R455)? -/
def pageCrossed (k : Stk) (spilled : Bool) (a : Word) (s : State) : Bool :=
  !s.mode.getLsbD (boundaryBit k) && (a &&& 0x380) == (if spilled then 0 else 0x380 : Word)

/-- The first half of `CheckPage`: the exception of a crossing. -/
def notePage (k : Stk) (spilled : Bool) (a : Word) (s : State) : State :=
  if pageCrossed k spilled a s then signal (pageTrap k spilled) (setBoundary k true s) else s

/-- Where the pointer comes to stand after a spill to `a` or a refill from `a`. -/
def pagePointer (spilled : Bool) (a : Word) : Word := if spilled then a - 4 else a

theorem checkPage_eq (k : Stk) (spilled : Bool) (a : Word) (s : State) :
    checkPage k spilled a s =
      if (pagePointer spilled a &&& 0x380) = 0x200 then setBoundary k false (notePage k spilled a s)
      else notePage k spilled a s := rfl

/-- One elementary action of the instruction `i` that began in state `s`. Each action that writes something an
instruction needs a licence for carries the licence. -/
inductive Act (i : Instr) (s : State) : State → State → Prop
  | flow {u : State} (f : Flow) (h : cellAligned u.flow.npc → cellAligned f.npc) : Act i s u (u.setFlow f)
  | read {u : State} (a : Word) : Act i s u (busRead a u).2
  | write {u : State} (a v : Word) (h : writesMemory i = true) : Act i s u (busWrite a v u)
  | os {u : State} (st : Stack) (hp : cellAligned u.os.ptr → cellAligned st.ptr)
      (hc : u.os.refillable → st.refillable) : Act i s u (u.setOs st)
  | ls {u : State} (st : Stack) (hp : cellAligned u.ls.ptr → cellAligned st.ptr) : Act i s u (u.setLs st)
  | boundary {u : State} (k : Stk) (b : Bool) (h : writesBoundary k i = true) : Act i s u (setBoundary k b u)
  | signal {u : State} (x : Trap) (h : signalsTrap i x = true) : Act i s u (signal x u)
  | carry {u : State} (c : Bool) (h : writesCarry i = true) : Act i s u (setCarry c u)
  | grs {u : State} (e : Grs) (h : writesGrs i = true) : Act i s u (setGrs e u)
  | enable {u : State} (b : Bool) (h : writesEnable i = true) :
      Act i s u (u.setMode (putBit u.mode bitInterruptEn b))
  | mode {u : State} (n : Word) (h : i = .popMode) : Act i s u (u.setMode (writtenMode u.mode n))
  | ct {u : State} (v : Word) : Act i s u (u.setCt v)
  | x {u : State} (v : Word) : Act i s u (u.setX v)
  | ctl {u : State} (c : Control) : Act i s u (u.setCtl c)
  | free {u : State} (k : Nat) : Act i s u (useFree k u)
  | global {u : State} (k : Fin 16) (v : Word) (h : i = .popG k) : Act i s u (u.setG (u.g.set k v))
  | resource {u : State} (r : Resources) (h : writesResource i = true)
      (hl : r.mfltLatched = u.res.mfltLatched) : Act i s u (u.setRes r)
  | service {u : State} (v : Byte) (h : i = .reti) : Act i s u (u.setRes { u.res with ioius := v })
  | unlatch (h : i = .ldo) : Act i s s (s.setRes { s.res with mfltLatched := false })

/-- Any number of actions, one after the other. -/
abbrev Acts (i : Instr) (s : State) : State → State → Prop := Relation.ReflTransGen (Act i s)

section
variable {i : Instr} {s u t : State}

/-! The shared operations as chains of actions. -/

theorem enterGroup_acts (a : Word) (u : State) : Acts i s u (enterGroup a u) :=
  .head (.read a) (.single (.flow _ fun _ => cellAligned_cellAddress_add_four a))

theorem advance_acts (u : State) : Acts i s u (advance u) := by
  unfold advance
  split
  · exact enterGroup_acts _ u
  · exact .single (.flow _ id)

theorem acts_of_next {v : State} (hv : Acts i s u v) (h : (.next v : Result) = .next t) : Acts i s u t := by
  cases h
  exact hv

/-- `advance` as the end of an instruction. -/
theorem acts_of_advance {v : State} (h : (.next (advance v) : Result) = .next t) : Acts i s v t :=
  acts_of_next (advance_acts v) h

theorem refillable_replace {st : Stack} {k : Nat} {vs : List Word} (hk : k ≤ vs.length ∨ st.active = true)
    (h : st.refillable) : ({ st with
      cells := vs ++ st.cells.drop k, active := st.active || decide (k < vs.length) } : Stack).refillable := by
  by_cases ha : st.active = true
  · exact .inr (by simp [ha])
  · by_cases hlt : k < vs.length
    · exact .inr (by simp [hlt])
    · have h2 : 2 ≤ st.cells.length := h.resolve_right ha
      have hk' : k ≤ vs.length := hk.resolve_right ha
      left
      simp only [List.length_append, List.length_drop]
      omega

theorem replaceS_act {k : Nat} {vs : List Word} (h : replaceS k vs u = .next t) : Act i s u t := by
  obtain ⟨hk, rfl⟩ := replaceS_eq_next u h
  exact .os _ id (refillable_replace hk)

theorem stackResult_acts {k : Nat} {vs : List Word} (h : stackResult k vs u = .next t) : Acts i s u t := by
  obtain ⟨v, hv, ht⟩ := andThen_eq_next.1 h
  exact .head (replaceS_act hv) (acts_of_advance ht)

/-- An instruction that pops and then goes on. -/
theorem acts_of_pop {k : Nat} {vs : List Word} {f : State → Result} (h : andThen (replaceS k vs u) f = .next t)
    (hf : ∀ v, f v = .next t → Acts i s v t) : Acts i s u t := by
  obtain ⟨v, hv, ht⟩ := andThen_eq_next.1 h
  exact .head (replaceS_act hv) (hf v ht)

theorem transferTo_acts {a : Word} (h : transferTo a u = .next t) : Acts i s u t := by
  rw [transferTo_eq_next u h]
  exact enterGroup_acts a u

theorem popL_acts {f : Word → State → Result} (h : popL u f = .next t)
    (hf : ∀ a v, f a v = .next t → Acts i s v t) : Acts i s u t := by
  obtain ⟨-, ht⟩ := popL_eq_next u h
  exact .head (.ls { u.ls with cells := u.ls.cells.tail } id) (hf _ _ ht)

theorem pushL_act (v : Word) (u : State) : Act i s u (pushL v u) := .ls _ id

theorem setLocalReg_act (k : Nat) (v : Word) (u : State) : Act i s u (setLocalReg k v u) := .ls _ id

theorem signalWhen_acts (c : Bool) {x : Trap} (h : signalsTrap i x = true) (u : State) :
    Acts i s u (signalWhen c x u) := by
  cases c
  · exact .refl
  · exact .single (.signal x h)

theorem checkPage_acts {k : Stk} {spilled : Bool} (hb : writesBoundary k i = true)
    (hs : signalsTrap i (pageTrap k spilled) = true) (a : Word) (u : State) : Acts i s u (checkPage k spilled a u) := by
  have hnote : Acts i s u (notePage k spilled a u) := by
    unfold notePage
    split
    · exact .head (.boundary k true hb) (.single (.signal _ hs))
    · exact .refl
  rw [checkPage_eq]
  split
  · exact hnote.tail (.boundary k false hb)
  · exact hnote

theorem setStack_act (k : Stk) (st : Stack) (hp : cellAligned (stackOf k u).ptr → cellAligned st.ptr)
    (hc : k = .os → u.os.refillable → st.refillable) : Act i s u (setStack k st u) := by
  cases k
  · exact .os st hp (hc rfl)
  · exact .ls st hp

theorem stackOf_eq {v : State} (k : Stk) (hos : v.os = u.os) (hls : v.ls = u.ls) : stackOf k v = stackOf k u := by
  cases k
  · exact hos
  · exact hls

theorem refill_acts {k : Stk} (hb : writesBoundary k i = true) (hs : signalsTrap i (underflowTrap k) = true)
    (u : State) : Acts i s u (refill k u) := by
  unfold refill
  refine .head (.read _) ((checkPage_acts (spilled := false) hb hs _ _).tail (setStack_act k _ ?_ ?_))
  · rw [stackOf_eq (u := u) k (by simp) (by simp)]
    exact fun hp => cellAligned_add hp (cellAligned_ofNat 1)
  · rintro rfl hc
    simp only [checkPage_os, busRead_os] at hc
    refine hc.imp (fun hlen => ?_) id
    simp only [stackOf, List.length_append]
    omega

theorem iter_acts {f : State → State} (hf : ∀ v, Acts i s v (f v)) (n : Nat) (u : State) : Acts i s u (iter n f u) :=
  iter_induct (P := Acts i s u) u (fun v hv => hv.trans (hf v)) n .refl

theorem fill_acts {k : Stk} (hb : writesBoundary k i = true) (hs : signalsTrap i (underflowTrap k) = true) (m : Nat)
    (u : State) : Acts i s u (fill k m u) := iter_acts (refill_acts hb hs) _ u

theorem withR0_acts (hb : writesBoundary .ls i = true) (hs : signalsTrap i .lsUnf = true) (u : State) :
    Acts i s u (withR0 u) := fill_acts hb hs _ u

theorem busWrite_memStore_acts (hw : writesMemory i = true) {a v : Word} (h : memStore a v u = .next t) :
    Acts i s u t := by
  rw [(memStore_eq_next u h).2]
  exact .single (.write a v hw)

theorem storeTo_acts (hw : writesMemory i = true) {a v : Word} (h : storeTo a v u = .next t) : Acts i s u t := by
  obtain ⟨w, hstore, ht⟩ := andThen_eq_next.1 h
  exact (busWrite_memStore_acts hw hstore).trans (acts_of_advance ht)

theorem storeWith_acts (hw : writesMemory i = true) {a v : Word} (h : storeWith a v u = .next t) : Acts i s u t :=
  acts_of_pop h fun _ => storeTo_acts hw

theorem loadWith_acts {k : Nat} {a : Word} {f : Word → Word} (h : loadWith k a f u = .next t) : Acts i s u t :=
  .head (.read a) (stackResult_acts h)

theorem spill_acts {k : Stk} {npc : Word} (hw : writesMemory i = true) (hb : writesBoundary k i = true)
    (hs : signalsTrap i (overflowTrap k) = true) (hlen : k = .os → 2 < (stackOf k u).cells.length)
    (h : spill npc k u = .next t) : Acts i s u t := by
  rw [(spill_eq_next u h).2]
  unfold spillRaw
  refine .head (.write _ _ hw) ((checkPage_acts (spilled := true) hb hs _ _).tail (setStack_act k _ ?_ ?_))
  · rw [stackOf_eq (u := u) k (by simp) (by simp)]
    exact cellAligned_sub_four
  · rintro rfl -
    left
    have hlen' := hlen rfl
    simp only [stackOf, List.length_dropLast] at hlen' ⊢
    omega

end

end Sys2Proof.Machine
end

section
/-! Spills and refills, and the chains of actions made of them. -/

namespace Sys2Proof.Machine

section
variable (k : Stk) (s : State)

@[simp] theorem stackOf_setStack_same (v : Stack) : stackOf k (setStack k v s) = v := by cases k <;> rfl

theorem stackOf_setStack_other {k k' : Stk} (h : k' ≠ k) (v : Stack) (s : State) :
    stackOf k' (setStack k v s) = stackOf k' s := by
  match k, k', h with
  | .os, .ls, _ => rfl
  | .ls, .os, _ => rfl
  | .os, .os, h => exact absurd rfl h
  | .ls, .ls, h => exact absurd rfl h

@[simp] theorem setStack_flow (v : Stack) : (setStack k v s).flow = s.flow := by cases k <;> rfl
@[simp] theorem setStack_g (v : Stack) : (setStack k v s).g = s.g := by cases k <;> rfl
@[simp] theorem setStack_x (v : Stack) : (setStack k v s).x = s.x := by cases k <;> rfl
@[simp] theorem setStack_ct (v : Stack) : (setStack k v s).ct = s.ct := by cases k <;> rfl
@[simp] theorem setStack_mode (v : Stack) : (setStack k v s).mode = s.mode := by cases k <;> rfl
@[simp] theorem setStack_res (v : Stack) : (setStack k v s).res = s.res := by cases k <;> rfl
@[simp] theorem setStack_ctl (v : Stack) : (setStack k v s).ctl = s.ctl := by cases k <;> rfl
@[simp] theorem setStack_plat (v : Stack) : (setStack k v s).plat = s.plat := by cases k <;> rfl
@[simp] theorem setStack_mem (v : Stack) : (setStack k v s).mem = s.mem := by cases k <;> rfl

@[simp] theorem stackOf_checkPage (k' : Stk) (b : Bool) (a : Word) :
    stackOf k (checkPage k' b a s) = stackOf k s := stackOf_eq k (by simp) (by simp)

@[simp] theorem stackOf_busRead (a : Word) : stackOf k (busRead a s).2 = stackOf k s := stackOf_eq k (by simp) (by simp)

@[simp] theorem stackOf_busWrite (a v : Word) : stackOf k (busWrite a v s) = stackOf k s :=
  stackOf_eq k (by simp) (by simp)

/-- A spill takes the deepest cell off the chip (10_state.md R28). -/
@[simp] theorem stackOf_spillRaw : stackOf k (spillRaw k s) =
    { stackOf k s with cells := (stackOf k s).cells.dropLast, ptr := (stackOf k s).ptr - 4 } := by
  simp [spillRaw]

/-- A refill brings the cell above the pointer on chip (10_state.md R28). -/
@[simp] theorem stackOf_refill : stackOf k (refill k s) =
    { stackOf k s with
      cells := (stackOf k s).cells ++ [(busRead ((stackOf k s).ptr + 4) s).1], ptr := (stackOf k s).ptr + 4 } := by
  simp [refill]

theorem stackOf_spillRaw_other {k k' : Stk} (h : k' ≠ k) (s : State) :
    stackOf k' (spillRaw k s) = stackOf k' s := by
  simp [spillRaw, stackOf_setStack_other h]

theorem stackOf_refill_other {k k' : Stk} (h : k' ≠ k) (s : State) : stackOf k' (refill k s) = stackOf k' s := by
  simp [refill, stackOf_setStack_other h]

@[simp] theorem spillRaw_flow : (spillRaw k s).flow = s.flow := by simp [spillRaw]
@[simp] theorem refill_flow : (refill k s).flow = s.flow := by simp [refill]
@[simp] theorem refill_mem : (refill k s).mem = s.mem := by simp [refill]
@[simp] theorem refill_g : (refill k s).g = s.g := by simp [refill]
@[simp] theorem refill_x : (refill k s).x = s.x := by simp [refill]
@[simp] theorem refill_ct : (refill k s).ct = s.ct := by simp [refill]
@[simp] theorem spillRaw_g : (spillRaw k s).g = s.g := by simp [spillRaw]
@[simp] theorem spillRaw_x : (spillRaw k s).x = s.x := by simp [spillRaw]
@[simp] theorem spillRaw_ct : (spillRaw k s).ct = s.ct := by simp [spillRaw]

@[simp] theorem fill_flow (m : Nat) : (fill k m s).flow = s.flow :=
  iter_induct (P := fun u => u.flow = s.flow) s (fun u h => by rw [refill_flow, h]) _ rfl

end

/-- Spills that no refusal stops are the plain ones. -/
theorem iterO_spill_eq {npc : Word} {k : Stk} {n : Nat} {u t : State} (h : iterO n (spill npc k) u = .next t) :
    t = iter n (spillRaw k) u := by
  induction n generalizing u with
  | zero => cases h; rfl
  | succ n ih =>
    obtain ⟨v, hv, ht⟩ := andThen_eq_next.1 h
    rw [ih ht, (spill_eq_next u hv).2, iter]

/-- After `n` spills a stack has `n` cells fewer on chip. -/
theorem length_iter_spillRaw (k : Stk) (n : Nat) (u : State) :
    (stackOf k (iter n (spillRaw k) u)).cells.length = (stackOf k u).cells.length - n := by
  induction n generalizing u with
  | zero => rfl
  | succ n ih =>
    rw [iter, ih, stackOf_spillRaw, List.length_dropLast]
    omega

theorem length_iter_refill (k : Stk) (n : Nat) (u : State) :
    (stackOf k (iter n (refill k) u)).cells.length = (stackOf k u).cells.length + n := by
  induction n generalizing u with
  | zero => rfl
  | succ n ih =>
    rw [iter, ih, stackOf_refill, List.length_append, List.length_singleton]
    omega

theorem length_fill (k : Stk) (least : Nat) (u : State) :
    (stackOf k (fill k least u)).cells.length = max (stackOf k u).cells.length least := by
  rw [fill, length_iter_refill]
  omega

theorem iterO_spill_acts {i : Instr} {s : State} {k : Stk} {npc : Word} (hw : writesMemory i = true)
    (hb : writesBoundary k i = true) (hs : signalsTrap i (overflowTrap k) = true) {n : Nat} {u t : State}
    (hlen : k = .os → n = 0 ∨ n + 2 ≤ (stackOf k u).cells.length) (h : iterO n (spill npc k) u = .next t) :
    Acts i s u t := by
  induction n generalizing u with
  | zero => cases h; exact .refl
  | succ n ih =>
    obtain ⟨v, hv, ht⟩ := andThen_eq_next.1 h
    refine (spill_acts hw hb hs (fun hk => ?_) hv).trans (ih (fun hk => ?_) ht)
    · have hmany := hlen hk
      omega
    · have hmany := hlen hk
      rw [(spill_eq_next u hv).2, stackOf_spillRaw, List.length_dropLast]
      omega

theorem trim_acts {i : Instr} {s : State} {k : Stk} {npc : Word} (hw : writesMemory i = true)
    (hb : writesBoundary k i = true) (hs : signalsTrap i (overflowTrap k) = true) {limit : Nat}
    (hl : k = .os → 2 ≤ limit) {u t : State} (h : trim npc k limit u = .next t) : Acts i s u t :=
  iterO_spill_acts hw hb hs (fun hk => by have := hl hk; omega) h

theorem cacheTo_acts {i : Instr} {s : State} {k : Stk} (hw : writesMemory i = true) (hb : writesBoundary k i = true)
    (ho : signalsTrap i (overflowTrap k) = true) (hu : signalsTrap i (underflowTrap k) = true) {n : Int} {u t : State}
    (h : cacheTo k n u = .next t) : Acts i s u t := by
  unfold cacheTo at h
  split at h
  · cases h
  · split at h
    · exact acts_of_next (fill_acts hb hu _ u) h
    · split at h
      · refine trim_acts hw hb ho ?_ h
        rintro rfl
        simp only [mostCells]
        omega
      · exact acts_of_next .refl h

end Sys2Proof.Machine
end

section
/-! Each instruction as a chain of actions. -/

namespace Sys2Proof.Machine

section
variable {i : Instr} {s u t : State}

theorem carry_stackResult_acts (hc : writesCarry i = true) {c : Bool} {k : Nat} {vs : List Word}
    (h : stackResult k vs (setCarry c u) = .next t) : Acts i s u t := .head (.carry c hc) (stackResult_acts h)

theorem carry_advance_acts (hc : writesCarry i = true) {c : Bool}
    (h : (.next (advance (setCarry c u)) : Result) = .next t) : Acts i s u t :=
  .head (.carry c hc) (acts_of_advance h)

theorem grs_stackResult_acts (hg : writesGrs i = true) {e : Grs} {k : Nat} {vs : List Word}
    (h : stackResult k vs (setGrs e u) = .next t) : Acts i s u t := .head (.grs e hg) (stackResult_acts h)

theorem skipWhen_acts {c : Bool} (h : skipWhen c u = .next t) : Acts i s u t := by
  refine acts_of_next ?_ h
  split
  · exact enterGroup_acts _ u
  · exact advance_acts u

theorem skipPopWhen_acts {c : Bool} (h : skipPopWhen c u = .next t) : Acts i s u t :=
  acts_of_pop h fun _ => skipWhen_acts

theorem mloopWhen_acts {c : Bool} (h : mloopWhen c u = .next t) : Acts i s u t := by
  refine .head (.ct (u.ct - 1)) (acts_of_next ?_ h)
  split
  · exact .single (.flow _ id)
  · exact advance_acts _

theorem sigResult_acts {v : BitVec 64} (h : sigResult v u = .next t) : Acts i s u t := by
  unfold sigResult at h
  split at h <;> exact stackResult_acts h

theorem normalizedResult_acts (hg : writesGrs i = true) (hn : signalsTrap i .fpNrm = true) {v : BitVec 64} {e : Grs}
    {exponent : Int} {signals : State → State} (hsig : ∀ w, Acts i s w (signals w))
    (h : normalizedResult v e exponent signals u = .next t) : Acts i s u t :=
  .head (.grs e hg) (.head (.ct _) ((hsig _).trans ((signalWhen_acts _ hn _).trans (sigResult_acts h))))

theorem exponentResult_acts (ho : signalsTrap i .fpOvf = true) (hu : signalsTrap i .fpUnf = true) {e : Int}
    (h : exponentResult e u = .next t) : Acts i s u t :=
  (signalWhen_acts _ ho _).trans ((signalWhen_acts _ hu _).trans (stackResult_acts h))

/-- The actions of a return that first pops its address and then changes `f` of the state. -/
theorem popL_transfer_acts {f : State → State} (hf : ∀ v, Act i s v (f v))
    (h : popL u (fun a v => transferTo a (f v)) = .next t) : Acts i s u t :=
  popL_acts h fun _ v ht => .head (hf v) (transferTo_acts ht)

end

section
variable {s t : State}

theorem execRnd_acts (h : execRnd s = .next t) : Acts .rnd s s t := by
  unfold execRnd at h
  simp only [] at h
  split at h
  · exact carry_stackResult_acts rfl h
  · exact .head (.carry _ rfl) (.head (.signal .fpRnd rfl) (stackResult_acts h))
  · exact .head (.carry _ rfl) ((signalWhen_acts _ rfl _).trans (stackResult_acts h))

theorem execNorml_acts (h : execNorml s = .next t) : Acts .norml s s t := by
  unfold execNorml at h
  simp only [] at h
  split at h
  · exact .head (.grs _ rfl) (.head (.ct _) ((signalWhen_acts (x := .fpUnf) _ rfl _).trans
      ((signalWhen_acts (x := .fpNrm) _ rfl _).trans (.head (.free 4) (sigResult_acts h)))))
  · exact normalizedResult_acts rfl rfl (signalWhen_acts _ rfl) h

theorem allocateL_acts {i : Instr} (n : Nat) (u : State) : Acts i s u (allocateL n u) :=
  .head (.ls { u.ls with cells := newCells n u ++ u.ls.cells, active := true } id) (.single (.free n))

theorem allocateS_acts {i : Instr} (n : Nat) (u : State) : Acts i s u (allocateS n u) :=
  .head (.os { u.os with cells := u.os.cells.take 2 ++ newCells n u ++ u.os.cells.drop 2, active := true } id
    fun _ => .inr rfl) (.single (.free n))

theorem discard_act {i : Instr} {k : Stk} (keep n : Nat) {u : State} (hact : k = .os → u.os.active = true) :
    Act i s u (discard k keep n u) :=
  setStack_act k _ (fun hp => cellAligned_add hp (cellAligned_ofNat _)) fun hk _ => .inr (by subst hk; exact hact rfl)

theorem execLframe_acts (h : execLframe s = .next t) : Acts .lframe s s t := by
  refine acts_of_pop h fun v hv => ?_
  split at hv
  · cases hv
  · split at hv
    · exact (allocateL_acts _ v).trans (acts_of_advance hv)
    · split at hv
      · split at hv
        · exact .head (discard_act (k := .ls) 0 _ nofun) (acts_of_advance hv)
        · cases hv
      · exact acts_of_advance hv

theorem execSframe_acts (h : execSframe s = .next t) : Acts .sframe s s t := by
  unfold execSframe at h
  simp only [] at h
  split at h
  · cases h
  · split at h
    · exact (allocateS_acts _ s).trans (acts_of_advance h)
    · split at h
      · split at h
        · rename_i hact
          exact .head (discard_act 2 _ fun _ => hact) (acts_of_advance h)
        · cases h
      · exact acts_of_advance h

theorem execPopSa_acts (h : execPopSa s = .next t) : Acts .popSa s s t := by
  refine .head (.os { cells := [cell 1 s, cell 2 s], ptr := Memory.cellAddress (cell 0 s), active := true }
    (fun _ => cellAligned_cellAddress _) fun _ => .inr rfl) (.trans ?_ (.head (.boundary .os false rfl)
      (acts_of_advance h)))
  split
  · exact .single (.free 1)
  · exact .refl

theorem execLdo_acts (h : execLdo s = .next t) : Acts .ldo s s t := by
  have hread : ∀ r, resRead (cell 0 s) s = some r → Acts .ldo s s r.2 := by
    unfold resRead
    intro r hr
    split at hr
    · cases hr; exact .refl
    · split at hr
      · split at hr <;> cases hr
        · exact .single (.unlatch rfl)
        · exact .single (.free 1)
      · split at hr
        · split at hr <;> cases hr
          · exact .refl
          · exact .single (.free 1)
        · split at hr <;> cases hr
          exact .refl
  unfold execLdo at h
  split at h
  · rename_i r hr
    exact (hread r hr).trans (stackResult_acts h)
  · cases h

theorem writeByteReg_act {i : Instr} {u : State} (hw : writesResource i = true) (r : ByteReg) (v : Byte) :
    Act i s u (writeByteReg r v u) := by cases r <;> exact .resource _ hw rfl

theorem writeByteRegBit_act {i : Instr} {u : State} (hw : writesResource i = true) (r : ByteReg) (k : Nat) (b : Bool) :
    Act i s u (writeByteRegBit r k b u) := by cases r <;> exact .resource _ hw rfl

theorem execSto_acts (h : execSto s = .next t) : Acts .sto s s t := by
  refine acts_of_pop h fun v hv => ?_
  split at hv
  · rename_i w hw
    refine .trans ?_ (acts_of_advance hv)
    unfold resWrite at hw
    split at hw
    · cases hw; exact .single (writeByteReg_act rfl _ _)
    · split at hw
      · cases hw; exact .refl
      · split at hw <;> cases hw
        exact .single (.resource _ rfl rfl)
  · cases hv

theorem execStoI_acts (h : execStoI s = .next t) : Acts .stoI s s t := by
  refine acts_of_pop h fun v hv => ?_
  split at hv
  · exact .head (writeByteRegBit_act rfl _ _ _) (acts_of_advance hv)
  · cases hv

end

/-- Every instruction is a chain of actions its class allows. -/
theorem exec_acts {i : Instr} {s t : State} (h : exec i s = .next t) : Acts i s s t := by
  cases i <;> simp only [exec] at h
  case brOffset o => exact acts_of_next (enterGroup_acts _ s) h
  case callOffset o => exact acts_of_next (.head (pushL_act _ s) (enterGroup_acts _ _)) h
  case bzOffset o =>
    refine acts_of_pop h fun v hv => acts_of_next ?_ hv
    split <;> exact enterGroup_acts _ v
  case dbrOffset o =>
    refine .head (.ct (s.ct - 1)) (acts_of_next ?_ h)
    split <;> exact enterGroup_acts _ _
  case brIndirect => exact acts_of_pop h fun v => transferTo_acts
  case callIndirect => exact acts_of_pop h fun v hv => .head (pushL_act _ v) (transferTo_acts hv)
  case ret => exact popL_acts h fun _ _ => transferTo_acts
  case reti => exact popL_transfer_acts (fun v => .service _ rfl) h
  case step => exact popL_transfer_acts (fun v => .ctl _) h
  case bkpt => exact acts_of_next (.head (pushL_act _ s) (.head (.ctl _) (enterGroup_acts _ _))) h
  case skip | skipc | skipnc => exact skipWhen_acts h
  case skipn | skipnp | skipz | skipnn | skipp | skipnz => exact skipPopWhen_acts h
  case mloop | mloopc | mloopn | mloopnp | mloopz | mloopnc | mloopnn | mloopp | mloopnz => exact mloopWhen_acts h
  case ldS0 | ldX | ldB | ldW => exact loadWith_acts h
  case ldXInc | ldDecX => exact .head (.x _) (loadWith_acts h)
  case ldR0 => exact (withR0_acts rfl rfl s).trans (loadWith_acts h)
  case ldR0Inc | ldDecR0 => exact (withR0_acts rfl rfl s).trans (.head (setLocalReg_act _ _ _) (loadWith_acts h))
  case stS0 | stX => exact storeWith_acts rfl h
  case stXInc | stDecX => exact .head (.x _) (storeWith_acts rfl h)
  case stR0 => exact acts_of_pop h fun v hv => (withR0_acts rfl rfl v).trans (storeTo_acts rfl hv)
  case stR0Inc | stDecR0 =>
    exact acts_of_pop h fun v hv =>
      (withR0_acts rfl rfl v).trans (.head (setLocalReg_act _ _ _) (storeTo_acts rfl hv))
  case lcache =>
    refine acts_of_pop h fun v hv => ?_
    obtain ⟨w, hw, ht⟩ := andThen_eq_next.1 hv
    exact (cacheTo_acts rfl rfl rfl rfl hw).trans (acts_of_advance ht)
  case scache =>
    obtain ⟨w, hw, ht⟩ := andThen_eq_next.1 h
    exact (cacheTo_acts rfl rfl rfl rfl hw).trans (acts_of_advance ht)
  case pushR r => exact (fill_acts (k := .ls) rfl rfl _ s).trans (stackResult_acts h)
  case popR r =>
    exact acts_of_pop h fun v hv =>
      (fill_acts (k := .ls) rfl rfl _ v).trans (.head (setLocalReg_act _ _ _) (acts_of_advance hv))
  case popG k => exact .head (.global k _ rfl) (stackResult_acts h)
  case popCt | expdif => exact .head (.ct _) (stackResult_acts h)
  case popX => exact .head (.x _) (stackResult_acts h)
  case popMode => exact .head (.ctl _) (.head (.ctl _) (.head (.mode _ rfl) (stackResult_acts h)))
  case popLstack => exact .head (pushL_act _ s) (stackResult_acts h)
  case pushLstack => exact popL_acts h fun _ _ => stackResult_acts
  case pushL =>
    simp only [execPushL] at h
    split at h
    · cases h
    · exact .head (.read _) (.head (.flow _ fun hp => cellAligned_add hp (cellAligned_ofNat 1)) (stackResult_acts h))
  case pushB n => exact .head (.flow { s.flow with bytelit := true } id) (stackResult_acts h)
  case pushS2 =>
    refine .trans ?_ (stackResult_acts h)
    split
    · exact .single (.free 1)
    · exact .refl
  case rev =>
    simp only [execRev] at h
    split at h
    · exact .head (.free 1) (stackResult_acts h)
    · exact stackResult_acts h
  case popSa => exact execPopSa_acts h
  case popLa =>
    exact acts_of_pop h fun v hv =>
      .head (.ls { cells := [], ptr := Memory.cellAddress (cell 0 s), active := true } fun _ =>
        cellAligned_cellAddress _) (.head (.boundary .ls false rfl) (acts_of_advance hv))
  case lframe => exact execLframe_acts h
  case sframe => exact execSframe_acts h
  case ldo => exact execLdo_acts h
  case ldoI =>
    simp only [execLdoI] at h
    split at h
    · exact stackResult_acts h
    · cases h
  case sto => exact execSto_acts h
  case stoI => exact execStoI_acts h
  case ei | di => exact .head (.ctl _) (.head (.enable _ rfl) (acts_of_advance h))
  case decCt => exact .head (.ct _) (acts_of_advance h)
  case nop => exact acts_of_advance h
  case cmp | notc | testb => exact carry_advance_acts rfl h
  case mxm =>
    simp only [execMxm] at h
    split at h
    · exact carry_advance_acts rfl h
    · exact carry_stackResult_acts rfl h
  case add | addPc | addc | sub | subb | and | or | xor | iand | shl1 | shl8 | shld1 =>
    exact carry_stackResult_acts rfl h
  case shr1 | shr8 | shrd1 | replexp => exact grs_stackResult_acts rfl h
  case shift =>
    simp only [execShift] at h
    split at h
    · exact grs_stackResult_acts rfl h
    · exact carry_stackResult_acts rfl h
  case shiftd =>
    simp only [execShiftd] at h
    split at h
    · exact grs_stackResult_acts rfl h
    · exact carry_stackResult_acts rfl h
  case mulfs =>
    simp only [execMulfs] at h
    split at h
    · exact .head (.ct _) (stackResult_acts h)
    · exact .head (.ct _) (.head (.grs _ rfl) (.head (.free 4) (stackResult_acts h)))
  case divu =>
    simp only [execDivu] at h
    split at h
    · exact stackResult_acts h
    · split at h
      · exact .head (.free 2) (stackResult_acts h)
      · exact stackResult_acts h
  case addexp | subexp => exact exponentResult_acts rfl rfl h
  case testexp =>
    exact .head (.grs _ rfl) (.head (.carry _ rfl) ((signalWhen_acts _ rfl _).trans (acts_of_advance h)))
  case denorm => exact normalizedResult_acts rfl rfl (fun _ => .refl) h
  case normr => exact normalizedResult_acts rfl rfl (signalWhen_acts _ rfl) h
  case norml => exact execNorml_acts h
  case rnd => exact execRnd_acts h
  case adda | neg | inc1 | inc4 | dec1 | dec4 | eqz | copyb | replb | replw | sexb | sexw | split | pushN | pushDup
      | pushS0 | pushS1 | pushCt | pushX | pushMode | pushG | pushSa | pushLa | ldepth | sdepth | popDrop | xcg
      | mulu | muls | extexp | extsig =>
    exact stackResult_acts h
  case unassigned43 | unassigned47 | unassigned63 | unassigned65 | unassigned67 | unassigned6A | unassigned6B
      | unassigned6C | unassigned6D | unassigned8F | unassignedAF | unassignedF => cases h

end Sys2Proof.Machine
end

section
/-! The invariant: what holds between an instruction and its Normalize, what Normalize makes of it, and that every part
of the cycle keeps it (10_state.md R26 to R35). -/

namespace Sys2Proof.Machine

/-- What an instruction keeps of the invariant, before its Normalize: the bounds of the stacks may be exceeded
(10_state.md R8, R35; log 29). -/
structure State.Unsettled (s : State) : Prop where
  memory : Memory.wf s.mem = true
  operands : s.os.refillable
  pointers : s.aligned

theorem State.Inv.unsettled {s : State} (h : s.Inv) : s.Unsettled := ⟨h.memory, .inl h.operands.1, h.pointers⟩

/-- The invariant speaks of memory, the two stacks and `npc` only. -/
theorem State.Inv.congr {s t : State} (h : s.Inv) (hmem : Memory.wf t.mem = true) (hos : t.os = s.os)
    (hls : t.ls = s.ls) (hnpc : cellAligned t.flow.npc) : t.Inv where
  memory := hmem
  operands := by unfold State.osWithin; rw [hos]; exact h.operands
  locals := by unfold State.lsWithin; rw [hls]; exact h.locals
  pointers := by
    unfold State.aligned
    rw [hos, hls]
    exact ⟨h.pointers.1, h.pointers.2.1, hnpc⟩

/-- A state that differs in none of what the invariant speaks of. -/
theorem State.Inv.same {s t : State} (h : s.Inv) (hmem : t.mem = s.mem) (hos : t.os = s.os) (hls : t.ls = s.ls)
    (hflow : t.flow = s.flow) : t.Inv :=
  h.congr (by rw [hmem]; exact h.memory) hos hls (by rw [hflow]; exact h.pointers.2.2)

theorem State.Unsettled.congr {s t : State} (h : s.Unsettled) (hmem : Memory.wf t.mem = true) (hos : t.os = s.os)
    (hls : t.ls = s.ls) (hflow : t.flow = s.flow) : t.Unsettled := by
  obtain ⟨-, hop, hptr⟩ := h
  refine ⟨hmem, by rw [hos]; exact hop, ?_⟩
  unfold State.aligned
  rw [hos, hls, hflow]
  exact hptr

theorem State.Unsettled.same {s t : State} (h : s.Unsettled) (hmem : t.mem = s.mem) (hos : t.os = s.os)
    (hls : t.ls = s.ls) (hflow : t.flow = s.flow) : t.Unsettled :=
  h.congr (by rw [hmem]; exact h.memory) hos hls hflow

/-- Every action of an instruction keeps the invariant but for the bounds of the stacks. -/
theorem Act.unsettled {i : Instr} {s u v : State} (h : Act i s u v) (hu : u.Unsettled) : v.Unsettled := by
  obtain ⟨hmem, hop, hos, hls, hnpc⟩ := hu
  cases h with
  | flow f hf => exact ⟨hmem, hop, hos, hls, hf hnpc⟩
  | read a =>
    exact State.Unsettled.same ⟨hmem, hop, hos, hls, hnpc⟩ (by simp) (by simp) (by simp) (by simp)
  | write a w hw =>
    exact State.Unsettled.congr ⟨hmem, hop, hos, hls, hnpc⟩ (busWrite_wf u a w hmem) (by simp) (by simp) (by simp)
  | os st hp hc => exact ⟨hmem, hc hop, hp hos, hls, hnpc⟩
  | ls st hp => exact ⟨hmem, hop, hos, hp hls, hnpc⟩
  | signal x hx =>
    exact State.Unsettled.same ⟨hmem, hop, hos, hls, hnpc⟩ (by simp) (by simp) (by simp) (by simp)
  | boundary | carry | grs | enable | mode | ct | x | ctl | free | global | resource | service | unlatch =>
    exact ⟨hmem, hop, hos, hls, hnpc⟩

theorem exec_unsettled {i : Instr} {s t : State} (h : exec i s = .next t) (hs : s.Unsettled) : t.Unsettled := by
  have hacts := exec_acts h
  clear h
  induction hacts with
  | refl => exact hs
  | tail _ hact ih => exact hact.unsettled ih

/-! Normalize. -/

/-- What the spills and refills of the stack `k` keep (10_state.md R28, R32). -/
structure CacheMoved (k : Stk) (s t : State) : Prop where
  memory : Memory.wf s.mem = true → Memory.wf t.mem = true
  pointer : cellAligned (stackOf k s).ptr → cellAligned (stackOf k t).ptr
  active : (stackOf k t).active = (stackOf k s).active
  other : ∀ k' : Stk, k' ≠ k → stackOf k' t = stackOf k' s
  flow : t.flow = s.flow

namespace CacheMoved

theorem refl (k : Stk) (s : State) : CacheMoved k s s := ⟨id, id, rfl, fun _ _ => rfl, rfl⟩

theorem trans {k : Stk} {s t u : State} (h : CacheMoved k s t) (h' : CacheMoved k t u) : CacheMoved k s u :=
  ⟨h'.memory ∘ h.memory, h'.pointer ∘ h.pointer, h'.active.trans h.active,
    fun k' hk => (h'.other k' hk).trans (h.other k' hk), h'.flow.trans h.flow⟩

theorem iter {k : Stk} {f : State → State} (hf : ∀ u, CacheMoved k u (f u)) (n : Nat) (s : State) :
    CacheMoved k s (iter n f s) := iter_induct (P := CacheMoved k s) s (fun u hu => hu.trans (hf u)) n (refl k s)

end CacheMoved

theorem spillRaw_moved (k : Stk) (s : State) : CacheMoved k s (spillRaw k s) where
  memory h := by
    simp only [spillRaw, setStack_mem, checkPage_mem]
    exact busWrite_wf s _ _ h
  pointer h := by rw [stackOf_spillRaw]; exact cellAligned_sub_four h
  active := by rw [stackOf_spillRaw]
  other k' hk := stackOf_spillRaw_other hk s
  flow := spillRaw_flow k s

theorem refill_moved (k : Stk) (s : State) : CacheMoved k s (refill k s) where
  memory h := by rw [refill_mem]; exact h
  pointer h := by rw [stackOf_refill]; exact cellAligned_add h (cellAligned_ofNat 1)
  active := by rw [stackOf_refill]
  other k' hk := stackOf_refill_other hk s
  flow := refill_flow k s

theorem fillActive_moved (k : Stk) (s : State) : CacheMoved k s (fillActive k s) := by
  unfold fillActive
  split
  · exact .iter (refill_moved k) _ s
  · exact .refl k s

theorem length_fillActive (k : Stk) (s : State) : (stackOf k (fillActive k s)).cells.length =
    bif (stackOf k s).active then max (stackOf k s).cells.length (leastCells k) else (stackOf k s).cells.length := by
  unfold fillActive
  split <;> rename_i hactive
  · rw [hactive, cond_true, length_fill]
  · rw [Bool.eq_false_iff.2 hactive, cond_false]

/-- One stack settled: trimmed to the most cells it may have, then refilled to the fewest (10_state.md R35). -/
def settleRaw (k : Stk) (s : State) : State :=
  fillActive k (iter ((stackOf k s).cells.length - mostCells k) (spillRaw k) s)

theorem normalizeRaw_eq (s : State) : normalizeRaw s = settleRaw .ls (settleRaw .os s) := rfl

theorem settle_eq_next {npc : Word} {k : Stk} {s t : State} (h : settle npc k s = .next t) : t = settleRaw k s := by
  obtain ⟨u, hu, ht⟩ := andThen_eq_next.1 h
  cases ht
  rw [iterO_spill_eq hu, settleRaw]

/-- `Normalize` that no spill stops is the plain one. -/
theorem normalize_eq_next {npc : Word} {s t : State} (h : normalize npc s = .next t) : t = normalizeRaw s := by
  obtain ⟨u, hu, ht⟩ := andThen_eq_next.1 h
  rw [settle_eq_next ht, settle_eq_next hu, normalizeRaw_eq]

theorem settleRaw_moved (k : Stk) (s : State) : CacheMoved k s (settleRaw k s) :=
  (CacheMoved.iter (spillRaw_moved k) _ s).trans (fillActive_moved k _)

theorem length_settleRaw (k : Stk) (s : State) : (stackOf k (settleRaw k s)).cells.length =
    bif (stackOf k s).active then max (min (stackOf k s).cells.length (mostCells k)) (leastCells k)
    else min (stackOf k s).cells.length (mostCells k) := by
  have hmin : (stackOf k s).cells.length - ((stackOf k s).cells.length - mostCells k) =
      min (stackOf k s).cells.length (mostCells k) := by omega
  have hactive := (CacheMoved.iter (spillRaw_moved k) ((stackOf k s).cells.length - mostCells k) s).active
  rw [settleRaw, length_fillActive, length_iter_spillRaw, hactive, hmin]

/-- `Normalize` restores the bounds of both stacks. -/
theorem normalizeRaw_inv {s : State} (h : s.Unsettled) : (normalizeRaw s).Inv := by
  obtain ⟨hmem, hop, hos, hls, hnpc⟩ := h
  rw [normalizeRaw_eq]
  have mos := settleRaw_moved .os s
  have mls := settleRaw_moved .ls (settleRaw .os s)
  have los := length_settleRaw .os s
  have lls := length_settleRaw .ls (settleRaw .os s)
  have eos : (settleRaw .ls (settleRaw .os s)).os = (settleRaw .os s).os := mls.other .os (by decide)
  have els : (settleRaw .os s).ls = s.ls := mos.other .ls (by decide)
  have aos := mos.active
  have als := mls.active
  simp only [stackOf, mostCells, leastCells] at los lls aos als
  refine ⟨mls.memory (mos.memory hmem), ?_, ?_, ?_⟩
  · unfold State.osWithin
    rw [eos, aos, los]
    cases hact : s.os.active
    · have hlen : 2 ≤ s.os.cells.length := hop.resolve_right (by simp [hact])
      simp only [cond_false, Bool.false_eq_true, false_implies, and_true]
      omega
    · simp only [cond_true, eq_self, true_implies]
      omega
  · unfold State.lsWithin
    rw [als, lls]
    cases (settleRaw .os s).ls.active
    · simp only [cond_false, Bool.false_eq_true, false_implies, and_true]
      omega
    · simp only [cond_true, eq_self, true_implies]
      omega
  · unfold State.aligned
    rw [eos, mls.flow, mos.flow]
    exact ⟨mos.pointer hos, mls.pointer (by rw [stackOf, els]; exact hls), hnpc⟩

theorem normalize_inv {npc : Word} {s t : State} (h : normalize npc s = .next t) (hs : s.Unsettled) : t.Inv := by
  rw [normalize_eq_next h]
  exact normalizeRaw_inv hs

/-! The parts of the cycle (10_state.md R24). -/

theorem enterGroup_inv (a : Word) {s : State} (h : s.Inv) : (enterGroup a s).Inv :=
  h.congr (by simpa using h.memory) (by simp) (by simp) (cellAligned_cellAddress_add_four a)

theorem pushL_unsettled (v : Word) {s : State} (h : s.Unsettled) : (pushL v s).Unsettled :=
  ⟨h.memory, h.operands, h.pointers⟩

theorem raiseTrap_unsettled (vector ra : Word) {s : State} (h : s.Unsettled) : (raiseTrap vector ra s).Unsettled := by
  obtain ⟨hmem, hop, hos, hls, -⟩ := h
  unfold raiseTrap
  exact ⟨by simpa [setIntBlock, pushL] using hmem, by simpa [setIntBlock, pushL] using hop,
    by simpa [setIntBlock, pushL] using hos, by simpa [setIntBlock, pushL] using hls,
    cellAligned_cellAddress_add_four vector⟩

theorem nestTraps_inv (fuel : Nat) (ra : Word) {s : State} (h : s.Inv) : (nestTraps fuel ra s).2.Inv := by
  induction fuel generalizing ra s with
  | zero => exact h
  | succ n ih =>
    unfold nestTraps
    split
    · exact h
    · have hremoved (u : Trap) : (removePending u s).Inv := h.same rfl rfl rfl rfl
      exact ih _ (normalizeRaw_inv (pushL_unsettled ra (hremoved _).unsettled))

theorem enterTraps_inv {s : State} (h : s.Inv) : (enterTraps s).Inv :=
  enterGroup_inv _ ((nestTraps_inv _ _ h).same rfl rfl rfl rfl)

theorem takeTraps_inv (fuel : Nat) {s : State} (h : s.Inv) : (takeTraps fuel s).Inv := by
  induction fuel generalizing s with
  | zero => exact h
  | succ n ih =>
    unfold takeTraps
    split
    · exact h
    · exact ih (enterTraps_inv h)

theorem takePending_inv {s : State} (h : s.Inv) : (takePending s).Inv := takeTraps_inv _ h

theorem finishPosted_inv {s : State} (h : s.Inv) : (finishPosted s).Inv :=
  h.same (by simp) (by simp) (by simp) (by simp)

theorem postedTick_inv {s : State} (h : s.Inv) : (postedTick s).Inv := by
  unfold postedTick
  split
  · exact h
  · split
    · split
      · exact finishPosted_inv h
      · exact h
    · exact h.same rfl rfl rfl rfl

theorem releaseBlock_inv (i : Instr) (here : BitVec 2) {s : State} (h : s.Inv) : (releaseBlock i here s).Inv := by
  unfold releaseBlock
  split
  · exact h.same rfl rfl rfl rfl
  · exact h

theorem endStep_inv {i : Instr} {stepping : Bool} {s t : State} (h : endStep i stepping s = .next t) (hs : s.Inv) :
    t.Inv := by
  unfold endStep at h
  split at h
  · split at h <;> cases h
    exact hs
  · cases h
    refine takePending_inv ?_
    split
    · exact hs.same (by simp [setStepPending]) (by simp [setStepPending]) (by simp [setStepPending])
        (by simp [setStepPending])
    · exact hs

theorem complete_inv {i : Instr} {here : BitVec 2} {npc : Word} {stepping : Bool} {s t : State}
    (h : complete i here npc stepping s = .next t) (hs : s.Unsettled) : t.Inv := by
  obtain ⟨u, hu, ht⟩ := andThen_eq_next.1 h
  exact endStep_inv ht (releaseBlock_inv i here (postedTick_inv (normalize_inv hu hs)))

theorem runInstr_inv {s t : State} (h : runInstr s = .next t) (hs : s.Inv) : t.Inv := by
  unfold runInstr at h
  split at h
  · cases h
  · obtain ⟨u, hu, ht⟩ := andThen_eq_next.1 h
    have hbegin : (beginInstr s).Inv := hs.same rfl rfl rfl rfl
    exact complete_inv ht (exec_unsettled hu hbegin.unsettled)

theorem effectiveEnable_inv {s : State} (h : s.Inv) : (effectiveEnable s).2.Inv := by
  unfold effectiveEnable
  split
  · exact h
  · split
    · exact h
    · exact h.same rfl rfl rfl rfl

theorem recognize_inv {s : State} (h : s.Inv) : (recognize s).2.Inv := by
  unfold recognize
  split
  · split
    · exact h
    · exact effectiveEnable_inv h
  · exact h

theorem takeInterrupt_inv (i : Fin 8) {s : State} (h : s.Inv) : (takeInterrupt i s).Inv := by
  have hbegin : (beginInstr s).Inv := h.same rfl rfl rfl rfl
  exact takePending_inv (normalizeRaw_inv (raiseTrap_unsettled _ _ (hbegin.unsettled.same rfl rfl rfl rfl)))

theorem latchGroup_inv {s : State} (h : s.Inv) : (latchGroup s).Inv := by
  unfold latchGroup
  split
  · exact enterGroup_inv _ h
  · exact h

theorem runStep_inv {s t : State} (h : runStep s = .next t) (hs : s.Inv) : t.Inv := by
  have hlatch := latchGroup_inv hs
  unfold runStep at h
  simp only [] at h
  split at h
  · cases h; exact hlatch
  · split at h
    · cases h; exact takePending_inv hlatch
    · split at h
      · cases h; exact takeInterrupt_inv _ (recognize_inv hlatch)
      · exact runInstr_inv h (recognize_inv hlatch)

theorem finish_inv {s t : State} {r : Result} (h : finish s r = .next t) (hs : s.Inv)
    (hr : ∀ u, r = .next u → u.Inv) : t.Inv := by
  obtain ⟨u, hu, ht⟩ := andThen_eq_next.1 h
  cases ht
  split
  · exact hs.congr (hr u hu).memory rfl rfl hs.pointers.2.2
  · exact hr u hu

theorem takeInput_inv {s : State} (h : s.Inv) : (takeInput s).2.Inv := by
  unfold takeInput
  split
  · exact h
  · exact h.same rfl rfl rfl rfl

theorem intcTick_inv {s : State} (sample : Byte) (h : s.Inv) : (intcTick s sample).Inv := h.same rfl rfl rfl rfl

theorem samplePins_inv (samples : List Byte) {s : State} (h : s.Inv) : (samplePins samples s).Inv := by
  unfold samplePins
  split
  · exact intcTick_inv _ h
  · exact List.foldlRecOn _ intcTick h fun u hu sample _ => intcTick_inv sample hu

theorem resetFrom_inv (powerUp : Bool) {s : State} (h : Memory.wf s.mem = true) : (State.resetFrom powerUp s).Inv where
  memory := h
  operands := show 2 ≤ 2 ∧ 2 ≤ 17 ∧ (false = true → 3 ≤ 2) by decide
  locals := show 0 ≤ 15 ∧ (false = true → 1 ≤ 0) by decide
  pointers := show cellAligned 0 ∧ cellAligned 0 ∧ cellAligned (resetAddress + 4) by unfold cellAligned; decide

/-- Settles O7: the state after a reset that is no power-up is a reset of itself. -/
theorem invAtReset : Obligations.InvAtReset := resetFrom_inv (s := State.reset) false rfl

theorem cycle_inv {s t : State} (h : cycle s = .next t) (hs : s.Inv) : t.Inv := by
  have hin := takeInput_inv hs
  unfold cycle at h
  simp only [] at h
  split at h
  · cases h; exact resetFrom_inv _ hin.memory
  · have hsampled := samplePins_inv (takeInput s).1.samples hin
    split at h
    · split at h <;> cases h
      exact hsampled
    · exact finish_inv h hsampled fun u hu => runStep_inv hu hsampled

/-- Settles O8: an instruction keeps what `State.Unsettled` says, Normalize makes the invariant of it, and every other
part of the cycle keeps the invariant. -/
theorem stepKeepsInv : Obligations.StepKeepsInv := by
  intro s t hs h
  exact cycle_inv h hs

end Sys2Proof.Machine
end

section
/-! Who writes what: the licences that the actions of an instruction carry (10_state.md R36, R41 to R47, 20_memory.md
R83). -/

namespace Sys2Proof.Machine

section
variable {i : Instr} {s u v t : State}

/-- What no action changes, no chain of actions changes. -/
theorem Acts.keeps {α : Type} {f : State → α} (h : Acts i s u v) (hf : ∀ {u v}, Act i s u v → f v = f u) :
    f v = f u := by
  induction h with
  | refl => rfl
  | tail _ hact ih => exact (hf hact).trans ih

theorem Act.g_eq (hi : ∀ k, i ≠ .popG k) (h : Act i s u v) : v.g = u.g := by
  cases h with
  | global k w hk => exact absurd hk (hi k)
  | read | write | signal => simp
  | flow | os | ls | boundary | carry | grs | enable | mode | ct | x | ctl | free | resource | service | unlatch => rfl

theorem Act.mem_eq (hi : writesMemory i = false) (h : Act i s u v) : v.mem = u.mem := by
  cases h with
  | write a w hw => rw [hi] at hw; cases hw
  | read | signal => simp
  | flow | os | ls | boundary | carry | grs | enable | mode | ct | x | ctl | free | global | resource | service
      | unlatch => rfl

/-- The registers of the input and output system and the enables, but for the interrupts under service. -/
def Resources.io (r : Resources) : Byte × Byte × Byte × Byte × Bool := (r.ioin, r.ioip, r.ioout, r.ioie, r.mspwe)

theorem Act.io_eq (hi : writesResource i = false) (h : Act i s u v) : v.res.io = u.res.io := by
  cases h with
  | resource r hw => rw [hi] at hw; cases hw
  | read | write | signal => simp [Resources.io]
  | flow | os | ls | boundary | carry | grs | enable | mode | ct | x | ctl | free | global | service | unlatch => rfl

theorem Act.ioius_eq (hi : writesResource i = false) (hr : i ≠ .reti) (h : Act i s u v) :
    v.res.ioius = u.res.ioius := by
  cases h with
  | resource r hw => rw [hi] at hw; cases hw
  | service w hw => exact absurd hw hr
  | read | write | signal => simp
  | flow | os | ls | boundary | carry | grs | enable | mode | ct | x | ctl | free | global | unlatch => rfl

end

theorem execPopG_g {k : Fin 16} {s t : State} (h : exec (.popG k) s = .next t) : t.g = s.g.set k (cell 0 s) := by
  rw [(stackResult_eq_next (s.setG (s.g.set k (cell 0 s))) h).2]
  simp

/-- Settles O59, by the licences of the actions of an instruction. -/
theorem onlyWriters : Obligations.OnlyWriters := by
  intro i s t h
  have hacts := exec_acts h
  refine ⟨fun k => ?_, fun hi => hacts.keeps (f := State.mem) (Act.mem_eq hi), fun hi => ?_⟩
  · by_cases hpop : ∃ j, i = .popG j
    · obtain ⟨j, rfl⟩ := hpop
      simp only [execPopG_g h, Fin.getElem_fin, Vector.getElem_set, Instr.popG.injEq, Fin.val_inj]
    · have hg := hacts.keeps (f := State.g) (Act.g_eq fun j hj => hpop ⟨j, hj⟩)
      rw [if_neg fun hk => hpop ⟨k, hk⟩, hg]
  · have hio := hacts.keeps (f := fun w => w.res.io) (Act.io_eq hi)
    simp only [Resources.io, Prod.mk.injEq] at hio
    obtain ⟨hin, hip, hout, hie, hmspwe⟩ := hio
    exact ⟨hin, hip, hout, hie, hmspwe, fun hr => hacts.keeps (f := fun w => w.res.ioius) (Act.ioius_eq hi hr)⟩

/-! The bits of `mode`. -/

theorem getLsbD_putGrs (m : Word) (e : Grs) (j : Nat) : (putGrs m e).getLsbD j =
    if j = 28 then e.sticky else if j = 29 then e.round else if j = 30 then e.guard else m.getLsbD j := by
  simp only [putGrs, getLsbD_putBit _ (show bitSticky < 32 by decide), getLsbD_putBit _ (show bitRound < 32 by decide),
    getLsbD_putBit _ (show bitGuard < 32 by decide)]

/-- `pop mode` bit by bit (10_state.md R46). -/
theorem getLsbD_writtenMode (old n : Word) {k : Nat} (hk : k < 32) : (writtenMode old n).getLsbD k =
    if k = 14 then false else if k = 20 ∨ k = 25 then old.getLsbD k else n.getLsbD k := by
  simp only [writtenMode, BitVec.getLsbD_or, BitVec.getLsbD_and, BitVec.getLsbD_not]
  interval_cases k <;> simp

/-- Bit `k` of `mode` is one that the instruction `i` may write with any value: carry, the GRS extension, the enable of
interrupts or a boundary bit, each under its licence, and under `pop mode` all but the boundary bits (R41, R42, R44,
R46). -/
inductive Writable (i : Instr) : Nat → Prop
  | carry (h : writesCarry i = true) : Writable i 15
  | guard (h : writesGrs i = true) : Writable i 30
  | round (h : writesGrs i = true) : Writable i 29
  | sticky (h : writesGrs i = true) : Writable i 28
  | enable (h : writesEnable i = true) : Writable i 13
  | boundary (k : Stk) (h : writesBoundary k i = true) : Writable i (boundaryBit k)
  | mode {k : Nat} (h : i = .popMode) (h20 : k ≠ 20) (h25 : k ≠ 25) : Writable i k

/-- Bit `k` of `mode` has an exception signalled in it, by an instruction that may signal it (48_float.md R415). -/
def SignalSet (i : Instr) (k : Nat) (t : State) : Prop :=
  k ∈ signalBits ∧ k ∈ maySignal i ∧ t.mode.getLsbD k = true

/-- Every bit of `mode` that differs was written under a licence or signalled. -/
def BitsLicensed (i : Instr) (s t : State) : Prop :=
  ∀ k : Nat, t.mode.getLsbD k = s.mode.getLsbD k ∨ Writable i k ∨ SignalSet i k t

/-- What an instruction that began in `s` has done to `mode` so far: the bits outside the memory fault are as before,
licensed or signalled, and the two bits of the memory fault changed by a fault only. -/
structure ModeKept (i : Instr) (s t : State) : Prop where
  bits : ∀ k : Nat, k ≠ 26 → k ≠ 31 → t.mode.getLsbD k = s.mode.getLsbD k ∨ Writable i k ∨ SignalSet i k t
  faultSignal : i ≠ .popMode → s.mode.getLsbD 26 = true → t.mode.getLsbD 26 = true
  faultKind : i ≠ .popMode →
    t.mode.getLsbD 31 = s.mode.getLsbD 31 ∨ (t.mode.getLsbD 26 = true ∧ t.res.mfltLatched = true)

section
variable {i : Instr} {s u v t : State}

/-- A bit put under its licence. -/
theorem bitsLicensed_putBit {k : Nat} (hk : k < 32) (hw : Writable i k) {b : Bool}
    (hm : v.mode = putBit u.mode k b) : BitsLicensed i u v := by
  intro j
  rw [hm, getLsbD_putBit _ hk]
  by_cases hj : j = k
  · exact .inr (.inl (hj ▸ hw))
  · exact .inl (if_neg hj)

theorem bitsLicensed_signal {x : Trap} (hx : signalsTrap i x = true) : BitsLicensed i u (signal x u) := by
  intro j
  cases hbits : trapBits x with
  | none => exact .inl (by simp [signal, hbits])
  | some p =>
    obtain ⟨sig, en⟩ := p
    unfold SignalSet
    rw [signal_mode u hbits, getLsbD_putBit _ (trapBits_lt hbits).1]
    by_cases hj : j = sig
    · subst hj
      refine .inr (.inr ⟨?_, by simpa [signalsTrap, hbits] using hx, if_pos rfl⟩)
      cases x <;> cases hbits <;> decide
    · exact .inl (if_neg hj)

theorem bitsLicensed_putGrs (hw : writesGrs i = true) (e : Grs) : BitsLicensed i u (setGrs e u) := by
  intro j
  simp only [setGrs, setMode_mode, getLsbD_putGrs]
  split
  · rename_i hj; subst hj; exact .inr (.inl (.sticky hw))
  · split
    · rename_i hj; subst hj; exact .inr (.inl (.round hw))
    · split
      · rename_i hj; subst hj; exact .inr (.inl (.guard hw))
      · exact .inl rfl

theorem bitsLicensed_mode (hi : i = .popMode) (n : Word) :
    BitsLicensed i u (u.setMode (writtenMode u.mode n)) := by
  intro j
  by_cases hj : j = 20 ∨ j = 25
  · refine .inl ?_
    rw [setMode_mode, getLsbD_writtenMode _ _ (by omega), if_neg (by omega), if_pos hj]
  · exact .inr (.inl (.mode hi (fun h => hj (.inl h)) fun h => hj (.inr h)))

/-- What one action can do to `mode`: at most a memory fault, nothing at the end of the latch, or licensed bits. -/
theorem Act.mode_cases (h : Act i s u v) :
    FaultAtMost u v ∨ (u = s ∧ v.mode = s.mode) ∨
      (BitsLicensed i u v ∧ v.res.mfltLatched = u.res.mfltLatched) := by
  cases h with
  | read a => exact .inl (busRead_faultAtMost a u)
  | write a w => exact .inl (busWrite_faultAtMost a w u)
  | resource r hw hl => exact .inl (.of_eq rfl hl)
  | flow | os | ls | ct | x | ctl | free | global | service => exact .inl (.of_eq rfl rfl)
  | unlatch => exact .inr (.inl ⟨rfl, rfl⟩)
  | boundary k b hw => exact .inr (.inr ⟨bitsLicensed_putBit (boundaryBit_lt k) (.boundary k hw) rfl, rfl⟩)
  | carry c hw => exact .inr (.inr ⟨bitsLicensed_putBit (by decide) (.carry hw) rfl, rfl⟩)
  | enable b hw => exact .inr (.inr ⟨bitsLicensed_putBit (by decide) (.enable hw) rfl, rfl⟩)
  | grs e hw => exact .inr (.inr ⟨bitsLicensed_putGrs hw e, rfl⟩)
  | mode n hi => exact .inr (.inr ⟨bitsLicensed_mode hi n, rfl⟩)
  | signal x hx => exact .inr (.inr ⟨bitsLicensed_signal hx, by simp⟩)

/-- But under `pop mode` no licence covers a signal bit, `mflt_write`, an enable bit or a setting of the machine. -/
theorem not_writable {k : Nat} (hi : i ≠ .popMode)
    (hk : k ∈ signalBits ∨ k = 31 ∨ k ∈ [0, 1, 2, 3, 5, 7, 9, 11, 14, 17, 19, 22, 24, 27]) : ¬ Writable i k := by
  intro hw
  cases hw with
  | mode h => exact hi h
  | boundary stk => cases stk <;> revert hk <;> decide
  | carry | guard | round | sticky | enable => revert hk; decide

theorem ModeKept.refl : ModeKept i s s := ⟨fun _ _ _ => .inl rfl, fun _ => id, fun _ => .inl rfl⟩

theorem ModeKept.of_fault (h : ModeKept i s u) (hf : FaultAtMost u v) : ModeKept i s v where
  bits k h26 h31 := by
    unfold SignalSet
    rw [hf.bits k h26 h31]
    exact h.bits k h26 h31
  faultSignal hi hs := hf.sticky (h.faultSignal hi hs)
  faultKind hi := by
    rcases hf.kind with hsame | hfault
    · rw [hsame]
      exact (h.faultKind hi).imp_right fun hu => ⟨hf.sticky hu.1, hf.latch hu.2⟩
    · exact .inr hfault

theorem ModeKept.of_licensed (h : ModeKept i s u) (hb : BitsLicensed i u v)
    (hl : v.res.mfltLatched = u.res.mfltLatched) : ModeKept i s v := by
  have hsig : i ≠ .popMode → u.mode.getLsbD 26 = true → v.mode.getLsbD 26 = true := fun hi hu => by
    rcases hb 26 with hsame | hw | hset
    · rw [hsame, hu]
    · exact absurd hw (not_writable hi (by decide))
    · exact hset.2.2
  refine ⟨fun k h26 h31 => ?_, fun hi hs => hsig hi (h.faultSignal hi hs), fun hi => ?_⟩
  · rcases hb k with hsame | hw | hset
    · unfold SignalSet
      rw [hsame]
      exact h.bits k h26 h31
    · exact .inr (.inl hw)
    · exact .inr (.inr hset)
  · rcases hb 31 with hsame | hw | hset
    · rw [hsame, hl]
      exact (h.faultKind hi).imp_right fun hu => ⟨hsig hi hu.1, hu.2⟩
    · exact absurd hw (not_writable hi (by decide))
    · exact absurd hset.1 (by decide)

theorem Act.modeKept (h : Act i s u v) (hu : ModeKept i s u) : ModeKept i s v := by
  rcases h.mode_cases with hf | ⟨rfl, hm⟩ | ⟨hb, hl⟩
  · exact hu.of_fault hf
  · exact ⟨fun k _ _ => .inl (by rw [hm]), fun _ hs => by rw [hm, hs], fun _ => .inl (by rw [hm])⟩
  · exact hu.of_licensed hb hl

theorem exec_modeKept (h : exec i s = .next t) : ModeKept i s t := by
  have hacts := exec_acts h
  clear h
  induction hacts with
  | refl => exact .refl
  | tail _ hact ih => exact hact.modeKept ih

/-- A bit that no licence covers and that no exception signals is as before. -/
theorem ModeKept.bit_eq (h : ModeKept i s t) {k : Nat} (h26 : k ≠ 26) (h31 : k ≠ 31) (hw : ¬ Writable i k)
    (hs : k ∈ signalBits → k ∉ maySignal i) : t.mode.getLsbD k = s.mode.getLsbD k := by
  rcases h.bits k h26 h31 with hsame | hwrit | hset
  · exact hsame
  · exact absurd hwrit hw
  · exact absurd hset.2.1 (hs hset.1)

end

theorem not_writable_carry {i : Instr} (h : writesCarry i = false) : ¬ Writable i 15 := by
  generalize hk : 15 = k
  intro hw
  cases hw with
  | carry hc => rw [h] at hc; cases hc
  | mode hi => subst hi; cases h
  | boundary stk => cases stk <;> cases hk
  | guard | round | sticky | enable => cases hk

theorem not_writable_enable {i : Instr} (h : writesEnable i = false) : ¬ Writable i 13 := by
  generalize hk : 13 = k
  intro hw
  cases hw with
  | enable hc => rw [h] at hc; cases hc
  | mode hi => subst hi; cases h
  | boundary stk => cases stk <;> cases hk
  | guard | round | sticky | carry => cases hk

theorem not_writable_grs {i : Instr} (h : writesGrs i = false) {k : Nat} (hk : k ∈ [28, 29, 30]) : ¬ Writable i k := by
  intro hw
  cases hw with
  | guard hc | round hc | sticky hc => rw [h] at hc; cases hc
  | mode hi => subst hi; cases h
  | boundary stk => cases stk <;> revert hk <;> decide
  | carry | enable => revert hk; decide

theorem not_writable_boundary {i : Instr} {k : Stk} (h : writesBoundary k i = false) :
    ¬ Writable i (boundaryBit k) := by
  generalize hb : boundaryBit k = j
  intro hw
  cases hw with
  | boundary stk hc =>
    have : stk = k := by revert hb; cases k <;> cases stk <;> decide
    subst this
    rw [h] at hc; cases hc
  | mode hi h20 h25 => cases k <;> [exact h20 hb.symm; exact h25 hb.symm]
  | guard | round | sticky | enable | carry => cases k <;> cases hb

/-- Settles O60, by the licences of the actions of an instruction. -/
theorem modeWriters : Obligations.ModeWriters := by
  intro i s t h
  have hkept := exec_modeKept h
  refine ⟨fun hi => ?_, fun hi => ?_, fun hi k hk => ?_, fun hi => ?_, fun hi => ?_, fun hi => ⟨fun k hk hs => ?_,
    fun k hk hm => ?_, hkept.faultKind hi, fun k hk => ?_⟩⟩
  · exact hkept.bit_eq (by decide) (by decide) (not_writable_carry hi)
      fun hsig => absurd hsig (by decide)
  · exact hkept.bit_eq (by decide) (by decide) (not_writable_enable hi)
      fun hsig => absurd hsig (by decide)
  · have hk' : k ≠ 26 ∧ k ≠ 31 ∧ k ∉ signalBits := by revert k; decide
    exact hkept.bit_eq hk'.1 hk'.2.1 (not_writable_grs hi hk) fun hsig => absurd hsig hk'.2.2
  · exact hkept.bit_eq (by decide) (by decide) (not_writable_boundary (k := .os) hi)
      fun hsig => absurd hsig (by decide)
  · exact hkept.bit_eq (by decide) (by decide) (not_writable_boundary (k := .ls) hi)
      fun hsig => absurd hsig (by decide)
  · by_cases h26 : k = 26
    · subst h26
      exact hkept.faultSignal hi hs
    · have h31 : k ≠ 31 := by rintro rfl; exact absurd hk (by decide)
      rcases hkept.bits k h26 h31 with hsame | hw | hset
      · rw [hsame, hs]
      · exact absurd hw (not_writable hi (.inl hk))
      · exact hset.2.2
  · have h26 : k ≠ 26 := fun hk26 => hm (by simp [hk26, maySignal])
    have h31 : k ≠ 31 := by rintro rfl; exact absurd hk (by decide)
    exact hkept.bit_eq h26 h31 (not_writable hi (.inl hk)) fun _ => hm
  · have hk' : k ≠ 26 ∧ k ≠ 31 ∧ k ∉ signalBits := by revert k; decide
    exact hkept.bit_eq hk'.1 hk'.2.1 (not_writable hi (.inr (.inr hk))) fun hsig => absurd hsig hk'.2.2

end Sys2Proof.Machine
end

section
/-! The bus: what each kind of transfer answers (20_memory.md R84 to R99, 60_exceptions.md R460, R461). -/

namespace Sys2Proof.Machine

section
variable {s : State}

theorem finishPosted_none (h : s.plat.posted = none) : finishPosted s = s := by simp [finishPosted, h]

theorem finishPosted_some {p : PostedWrite} (h : s.plat.posted = some p) : finishPosted s =
    if p.dval then
      (if p.faultb then memFault true p.addr p.data (s.setPlat { s.plat with posted := none })
        else s.setPlat { s.plat with posted := none })
    else hang s := by
  unfold finishPosted
  rw [h]

theorem busAnswer_cons {ans : BusAnswer} {rest : List BusAnswer} (h : s.plat.bus = ans :: rest) :
    busAnswer s = ans := by
  simp [busAnswer, h]

/-- The state in which the next transfer finds the bus: its answer is taken. -/
def busTaken (rest : List BusAnswer) (s : State) : State := s.setPlat { s.plat with bus := rest }

theorem busReady_cons {ans : BusAnswer} {rest : List BusAnswer} (hp : s.plat.posted = none)
    (h : s.plat.bus = ans :: rest) : busReady s = busTaken rest s := by
  simp [busReady, finishPosted_none hp, busTaken, h]

/-- A read about which the platform has an answer. -/
theorem busRead_cons {ans : BusAnswer} {rest : List BusAnswer} (a : Word) (hp : s.plat.posted = none)
    (hs : s.plat.stuck = false) (h : s.plat.bus = ans :: rest) : busRead a s =
      if !ans.dval then (freeVal 0 s, hang (useFree 1 (busTaken rest s)))
      else if ans.faultb then (freeVal 0 s, memFault false a (freeVal 1 s) (useFree 2 (busTaken rest s)))
      else (Memory.readCell s.mem a, busTaken rest s) := by
  unfold busRead
  simp only [finishPosted_none hp, busReady_cons hp h, busAnswer_cons h, hs]
  rfl

/-- What a write does to memory, by the platform's answer. -/
def writtenMem (ans : BusAnswer) (a v : Word) (s : State) : List Host.Cell :=
  if (ans.dval && !ans.faultb) || ans.lands then Memory.writeCell s.mem a v else s.mem

/-- A write that finds the bus free and is answered by `ans`. -/
def writeAnswered (ans : BusAnswer) (a v : Word) (s : State) : State :=
  let u := s.setMem (writtenMem ans a v s)
  if s.res.mspwe then u.setPlat { s.plat with
    posted := some { addr := a, data := v, dval := ans.dval, faultb := ans.faultb, late := ans.late } }
  else if !ans.dval then hang u else if ans.faultb then memFault true a v u else u

theorem busWrite_eq (a v : Word) (h : (finishPosted s).plat.stuck = false) :
    busWrite a v s = writeAnswered (busAnswer (finishPosted s)) a v (busReady s) := by
  have hstore (c : Bool) : (if c then (busReady s).setMem (Memory.writeCell (busReady s).mem a v) else busReady s) =
      (busReady s).setMem (if c then Memory.writeCell (busReady s).mem a v else (busReady s).mem) := by
    cases c <;> rfl
  unfold busWrite
  simp only []
  rw [if_neg (by simp [h]), hstore]
  rfl

/-- A write about which the platform has an answer. -/
theorem busWrite_cons {ans : BusAnswer} {rest : List BusAnswer} (a v : Word) (hp : s.plat.posted = none)
    (hs : s.plat.stuck = false) (h : s.plat.bus = ans :: rest) :
    busWrite a v s = writeAnswered ans a v (busTaken rest s) := by
  rw [busWrite_eq a v (by rw [finishPosted_none hp, hs]), finishPosted_none hp, busAnswer_cons h, busReady_cons hp h]

theorem busReady_quiet (hp : s.plat.posted = none) (hb : s.plat.bus = []) : busReady s = s := by
  simp only [busReady, finishPosted_none hp, hb, List.tail_nil]
  rw [← hb]
  rfl

/-- A write on a quiet bus, posted or not. -/
theorem busWrite_quiet (a v : Word) (hq : s.busQuiet) : busWrite a v s =
    if s.res.mspwe then (s.setMem (Memory.writeCell s.mem a v)).setPlat
      { s.plat with posted := some { addr := a, data := v, dval := true, faultb := false, late := 0 } }
    else s.setMem (Memory.writeCell s.mem a v) := by
  obtain ⟨hp, hb, hs⟩ := hq
  have hans : busAnswer s = plainAnswer := by rw [busAnswer, hb, List.headD_nil]
  rw [busWrite_eq a v (by rw [finishPosted_none hp, hs]), finishPosted_none hp, busReady_quiet hp hb, hans]
  rfl

theorem addPending_ctl (x : Trap) (s : State) : (addPending x s).ctl =
    if x ∈ s.ctl.pending then s.ctl else { s.ctl with pending := s.ctl.pending ++ [x] } := by
  unfold addPending
  split <;> rfl

theorem signal_ctl {x : Trap} {sig en : Nat} (hx : trapBits x = some (sig, en)) (s : State) :
    (signal x s).ctl = if (trapEnables s).getLsbD en then (addPending x s).ctl else s.ctl := by
  simp only [signal, hx]
  split
  · rw [addPending_ctl, addPending_ctl]; rfl
  · rfl

/-- Whether the trap of a memory fault is enabled does not depend on `mflt_write`. -/
theorem memFault_ctl (w : Bool) (a d : Word) (s : State) : (memFault w a d s).ctl =
    if (trapEnables s).getLsbD bitMfltEn then (addPending .memFault s).ctl else s.ctl := by
  have hen : (s.ctl.enOld.getD (putBit s.mode bitMfltWrite w)).getLsbD bitMfltEn =
      (s.ctl.enOld.getD s.mode).getLsbD bitMfltEn := by
    cases s.ctl.enOld
    · exact (getLsbD_putBit _ (by decide) _ _).trans (if_neg (by decide))
    · rfl
  unfold memFault
  rw [signal_ctl rfl, addPending_ctl, addPending_ctl]
  simp only [trapEnables, setMode_ctl, setMode_mode, setRes_ctl, setRes_mode, hen]
  rfl

theorem trapEnables_congr {u : State} (hm : u.mode = s.mode) (hc : u.ctl = s.ctl) : trapEnables u = trapEnables s := by
  rw [trapEnables, trapEnables, hm, hc]

/-- A memory fault reports itself as R460 says. -/
theorem memFault_reported (w : Bool) (a d : Word) {u : State} (hm : u.mode = s.mode) (hc : u.ctl = s.ctl)
    (hreg : u.flow = s.flow ∧ u.os = s.os ∧ u.ls = s.ls ∧ u.g = s.g ∧ u.x = s.x ∧ u.ct = s.ct) :
    FaultReported w a s (memFault w a d u) where
  signalled := by rw [memFault_mode, getLsbD_putBit _ (by decide), if_pos rfl]
  kind := by
    rw [memFault_mode, getLsbD_putBit _ (by decide), if_neg (by decide), getLsbD_putBit _ (by decide), if_pos rfl]
  otherBits k h26 h31 := by rw [(memFault_faultAtMost w a d u).bits k h26 h31, hm]
  address := by rw [memFault_res]
  latched := by rw [memFault_res]
  trapped hen := by
    rw [memFault_ctl, trapEnables_congr hm hc, if_pos hen]
    exact (mem_addPending u _ _).2 (.inr rfl)
  notTrapped hen := by
    rw [memFault_ctl, trapEnables_congr hm hc, if_neg (by simp [hen]), hc]
  registers := by simpa using hreg

/-- A write that is answered with a fault. -/
theorem writeAnswered_fault {ans : BusAnswer} (a v : Word) (hm : s.res.mspwe = false) (hd : ans.dval = true)
    (hf : ans.faultb = true) : writeAnswered ans a v s = memFault true a v (s.setMem (writtenMem ans a v s)) := by
  simp [writeAnswered, hm, hd, hf]

/-- A write that never ends. -/
theorem writeAnswered_hang {ans : BusAnswer} (a v : Word) (hm : s.res.mspwe = false) (hd : ans.dval = false) :
    writeAnswered ans a v s = hang (s.setMem (writtenMem ans a v s)) := by
  simp [writeAnswered, hm, hd]

/-- A read while the bus is free starts as it does after a posted write has ended. -/
theorem finishPosted_finishPosted {p : PostedWrite} (h : s.plat.posted = some p) (hd : p.dval = true) :
    finishPosted (finishPosted s) = finishPosted s := by
  refine finishPosted_none ?_
  rw [finishPosted_some h, if_pos hd]
  split <;> simp

theorem busReady_finishPosted (h : finishPosted (finishPosted s) = finishPosted s) :
    busReady (finishPosted s) = busReady s := by unfold busReady; rw [h]

theorem busRead_finishPosted (a : Word) (h : finishPosted (finishPosted s) = finishPosted s) :
    busRead a s = busRead a (finishPosted s) := by
  unfold busRead
  rw [busReady_finishPosted h, h, freeVal, freeVal, finishPosted_free]

theorem busWrite_finishPosted (a v : Word) (h : finishPosted (finishPosted s) = finishPosted s) :
    busWrite a v s = busWrite a v (finishPosted s) := by
  unfold busWrite
  rw [busReady_finishPosted h, h]

/-- Where a posted write holds up the CPU no other transfer is made. -/
theorem busRead_held (a : Word) (h : (finishPosted s).plat.stuck = true) : (busRead a s).2 = finishPosted s := by
  simp [busRead, h]

theorem busWrite_held (a v : Word) (h : (finishPosted s).plat.stuck = true) : busWrite a v s = finishPosted s := by
  simp [busWrite, h]

end

/-! The clauses of `Obligations.BusTransfers`. -/

section
variable {s : State}

/-- A transfer for which the platform lists an answer. -/
theorem busTransfer_answered {ans : BusAnswer} {rest : List BusAnswer} (a v : Word) (hp : s.plat.posted = none)
    (hs : s.plat.stuck = false) (h : s.plat.bus = ans :: rest) :
    (ans.dval = true → ans.faultb = true →
      (FaultReported false a s (busRead a s).2 ∧ (busRead a s).2.mem = s.mem) ∧
      (s.res.mspwe = false → FaultReported true a s (busWrite a v s) ∧ (busWrite a v s).res.mfltdata = v ∧
        (busWrite a v s).mem = (if ans.lands then Memory.writeCell s.mem a v else s.mem))) ∧
    (ans.dval = false → (busRead a s).2.plat.stuck = true ∧ (busRead a s).2.mem = s.mem ∧
      (s.res.mspwe = false → (busWrite a v s).plat.stuck = true ∧
        (busWrite a v s).mem = (if ans.lands then Memory.writeCell s.mem a v else s.mem))) := by
  rw [busRead_cons a hp hs h, busWrite_cons a v hp hs h]
  refine ⟨fun hd hf => ?_, fun hd => ?_⟩
  · rw [hd, hf]
    refine ⟨⟨memFault_reported _ _ _ rfl rfl ⟨rfl, rfl, rfl, rfl, rfl, rfl⟩, memFault_mem _ _ _ _⟩, fun hm => ?_⟩
    rw [writeAnswered_fault (s := busTaken rest s) a v hm hd hf]
    refine ⟨memFault_reported _ _ _ rfl rfl ⟨rfl, rfl, rfl, rfl, rfl, rfl⟩, by rw [memFault_res], ?_⟩
    rw [memFault_mem, setMem_mem, writtenMem, hd, hf]
    rfl
  · rw [hd]
    refine ⟨rfl, rfl, fun hm => ?_⟩
    rw [writeAnswered_hang (s := busTaken rest s) a v hm hd]
    refine ⟨rfl, ?_⟩
    rw [hang_mem, setMem_mem, writtenMem, hd]
    rfl

/-- A posted write ends, or comes nearer to its end, or never ends. -/
theorem busTransfer_posted {p : PostedWrite} (a v : Word) (h : s.plat.posted = some p) :
    (p.dval = true →
      (p.faultb = false → finishPosted s = s.setPlat { s.plat with posted := none }) ∧
      (p.faultb = true → FaultReported true p.addr s (finishPosted s) ∧ (finishPosted s).res.mfltdata = p.data ∧
        (finishPosted s).mem = s.mem ∧ (finishPosted s).plat = { s.plat with posted := none }) ∧
      (p.late = 0 → postedTick s = finishPosted s) ∧
      busRead a s = busRead a (finishPosted s) ∧ busWrite a v s = busWrite a v (finishPosted s)) ∧
    (∀ k : Nat, p.late = k + 1 → postedTick s = s.setPlat { s.plat with posted := some { p with late := k } }) ∧
    (p.dval = false → (p.late = 0 → postedTick s = s) ∧ (busRead a s).2 = hang s ∧ busWrite a v s = hang s) := by
  refine ⟨fun hd => ⟨fun hf => ?_, fun hf => ?_, fun hl => ?_, ?_, ?_⟩, fun k hk => ?_, fun hd => ?_⟩
  · rw [finishPosted_some h, hd, hf]; rfl
  · rw [finishPosted_some h, hd, hf]
    exact ⟨memFault_reported _ _ _ rfl rfl ⟨rfl, rfl, rfl, rfl, rfl, rfl⟩, by simp only [if_true, memFault_res],
      memFault_mem _ _ _ _, memFault_plat _ _ _ _⟩
  · simp [postedTick, h, hl, hd]
  · exact busRead_finishPosted a (finishPosted_finishPosted h hd)
  · exact busWrite_finishPosted a v (finishPosted_finishPosted h hd)
  · simp [postedTick, h, hk]
  · have hhang : finishPosted s = hang s := by rw [finishPosted_some h, hd]; rfl
    refine ⟨fun hl => by simp [postedTick, h, hl, hd], ?_, ?_⟩
    · rw [busRead_held a (by rw [hhang]; rfl), hhang]
    · rw [busWrite_held a v (by rw [hhang]; rfl), hhang]

/-- A CPU that waits makes no transfer, waits on, and is stuck for good when no input is left. -/
theorem busTransfer_stuck (h : s.plat.stuck = true) :
    (s.plat.posted = none → ∀ a v : Word, (busRead a s).2 = s ∧ busWrite a v s = s) ∧
    (s.plat.env = [] → step s = .fault .busStuck) ∧
    ∀ (i : StepInput) (rest : List StepInput), s.plat.env = i :: rest → i.reset = none →
      step s = .next (samplePins i.samples (s.setPlat { s.plat with env := rest })) := by
  refine ⟨fun hp a v => ?_, fun he => ?_, fun i rest he hr => ?_⟩
  · have hsame := finishPosted_none hp
    refine ⟨?_, ?_⟩
    · rw [busRead_held a (by rw [hsame, h]), hsame]
    · rw [busWrite_held a v (by rw [hsame, h]), hsame]
  · simp [step, cycle, takeInput, he, h]
  · simp [step, cycle, takeInput, he, h, hr]

end

/-- Settles O33, kind of transfer by kind of transfer. -/
theorem busTransfers : Obligations.BusTransfers := by
  refine ⟨fun s a v hq => ?_, fun s ans rest a v hp hs h => ?_, fun s p a v h => busTransfer_posted a v h,
    fun s h => busTransfer_stuck h⟩
  · obtain ⟨hp, hb, hs⟩ := hq
    have hfaults := readFaults_quiet s hp hb
    refine ⟨busRead_quiet s a hp hb hs, hfaults, by rw [fetchTraps, hfaults, Bool.false_and], fun hm => ?_,
      fun hm => ?_⟩
    · rw [busWrite_quiet a v ⟨hp, hb, hs⟩, hm]; rfl
    · rw [busWrite_quiet a v ⟨hp, hb, hs⟩, hm]; rfl
  · have hfaults : readFaults s = ans.faultb := by rw [readFaults, finishPosted_none hp, busAnswer_cons h]
    obtain ⟨hfault, hhang⟩ := busTransfer_answered a v hp hs h
    refine ⟨hfaults, by rw [fetchTraps, hfaults], hfault, fun hm => ?_, hhang⟩
    rw [busWrite_cons a v hp hs h, writeAnswered, if_pos (show (busTaken rest s).res.mspwe = true from hm)]
    rfl

end Sys2Proof.Machine
end

section
/-! Reset, the instruction cycle, sequencing, the page exceptions, the end of a step (10_state.md R22 to R24, R70,
60_exceptions.md R455, R466, R472). -/

namespace Sys2Proof.Machine

/-- Settles O5: each value is the one `State.reset` lists. -/
theorem resetValues : Obligations.ResetValues := by
  unfold Obligations.ResetValues
  decide

/-- Settles O6: a step whose input asserts *RESET is `State.resetFrom` and nothing else. -/
theorem resetStep : Obligations.ResetStep := by
  intro s i rest powerUp henv hreset
  have hstep : step s = .next (State.resetFrom powerUp (s.setPlat { s.plat with env := rest })) := by
    simp only [step, cycle, takeInput, henv, hreset]
  exact ⟨_, hstep, by simp [State.resetFrom, resetAddress]⟩

/-! One turn of the cycle. -/

section
variable {s v u : State}

/-- A step without a reset, of a CPU that does not wait (20_memory.md R97). -/
theorem step_noReset (hs : s.plat.stuck = false) (hr : (takeInput s).1.reset = none)
    (hv : v = samplePins (takeInput s).1.samples (takeInput s).2) : step s = finish v (runStep v) := by
  subst hv
  simp only [step, cycle, hr, hs]
  rfl

/-- The first fetch never ends: the CPU waits where the step began. -/
theorem runStep_stuck (hu : latchGroup v = u) (h : u.plat.stuck = true) : runStep v = .next u := by
  simp [runStep, hu, h]

/-- Nothing pending and no interrupt recognized: the instruction runs. -/
theorem runStep_runInstr (hu : latchGroup v = u) (hs : u.plat.stuck = false) (hp : u.ctl.pending = [])
    (hrec : (recognize u).1 = none) : runStep v = runInstr (recognize u).2 := by
  simp [runStep, hu, hs, hp, hrec]

/-- Recognition changes nothing but the counter of the free values. -/
theorem recognize_state (s : State) : (recognize s).2 = s ∨ (recognize s).2 = useFree 1 s := by
  unfold recognize effectiveEnable
  repeat' split
  all_goals simp

theorem recognize_frame (s : State) : (recognize s).2.flow = s.flow ∧ (recognize s).2.ctl = s.ctl := by
  rcases recognize_state s with h | h <;> rw [h]
  · exact ⟨rfl, rfl⟩
  · exact ⟨rfl, rfl⟩

theorem runInstr_ok {i : Instr} (h : decode (group s) (byteIndex s.flow.pc) = .ok i) : runInstr s =
    andThen (exec i (beginInstr s)) (complete i (byteIndex s.flow.pc) (nextCell i s) s.ctl.stepPending) := by
  unfold runInstr
  rw [h]

theorem runInstr_error {e : DecodeError} (h : decode (group s) (byteIndex s.flow.pc) = .error e) :
    runInstr s = .refused (.undecodable e) := by
  unfold runInstr
  rw [h]

end

/-- `push.b` at byte 3 of a group has no literal byte (30_encoding.md R126, U11). -/
theorem decode_pushB_last {g : Word} {p : BitVec 2} (hg : groupByte g 3 = 0x90) (hp : p = 3) :
    decode g p = .error .noLiteralByte := by
  subst hp
  unfold decode
  simp only []
  rw [hg, if_neg (by decide), if_neg (by decide), if_neg (by decide), if_neg (by decide), if_pos (by decide)]

/-- Settles O9: the cycle cut where the statement cuts it. -/
theorem stepRunsDecoded : Obligations.StepRunsDecoded := by
  intro s v u hs hr hv hu
  have hlatch : latchGroup v = u := hu.symm
  rw [step_noReset hs hr hv]
  refine ⟨fun hstuck => ?_, fun hgo hpend hrec => ?_⟩
  · rw [runStep_stuck hlatch hstuck]
    simp [finish, hstuck, heldUp]
  · obtain ⟨hflow, hctl⟩ := recognize_frame u
    have hgroup : group (recognize u).2 = group u := by rw [group, group, hflow]
    rw [runStep_runInstr hlatch hgo hpend hrec]
    refine ⟨fun i hi => ?_, fun hg hp => ?_⟩
    · rw [runInstr_ok (i := i) (by rw [hgroup, hflow]; exact hi), hflow, hctl, nextCell, hflow]
      rfl
    · rw [runInstr_error (e := .noLiteralByte) (by rw [hgroup, hflow]; exact decode_pushB_last hg hp)]
      rfl

/-! Sequencing. -/

/-- Bits 1 and 0 of an address as a number (10_state.md R21). -/
theorem byteIndex_toNat (a : Word) : (byteIndex a).toNat = a.toNat % 4 := by
  simp [byteIndex, BitVec.extractLsb'_toNat]

theorem byteIndex_eq_iff (a : Word) (p : BitVec 2) : byteIndex a = p ↔ a.toNat % 4 = p.toNat := by
  rw [← BitVec.toNat_inj, byteIndex_toNat]

/-- The last opcode of a group, by the address (10_state.md R24, D5). -/
theorem lastOfGroup_iff (s : State) : lastOfGroup s = true ↔
    s.flow.pc.toNat % 4 = 3 ∨ (s.flow.pc.toNat % 4 = 2 ∧ s.flow.bytelit = true) := by
  simp [lastOfGroup, byteIndex_eq_iff]

theorem cellAddress_add_four (a : Word) :
    Memory.cellAddress a + 4 = BitVec.ofNat 32 (4 * (a.toNat / 4) + 4) := by
  rw [← BitVec.toNat_inj, BitVec.toNat_add, Memory.cellAddress_toNat, BitVec.toNat_ofNat]
  rfl

/-- Settles O10: the frame is that of one bus read, which reports at most a memory fault. -/
theorem sequencing : Obligations.Sequencing := by
  refine ⟨fun s a hq => ?_, fun s => ?_, fun s t a ht => ?_⟩
  · obtain ⟨hp, hb, hs⟩ := hq
    rw [enterGroup_quiet s a hp hb hs, cellAddress_add_four]
  · simp only [advance, lastOfGroup_iff, nextGroup]
  · rcases ht with rfl | rfl
    · simpa using (enterGroup_faultAtMost a s).bits
    · simpa using (advance_faultAtMost s).bits

/-! The page exceptions. -/

/-- Bits 9 to 7 of an address: the eighth of a 1024-byte page that it lies in (60_exceptions.md R455). -/
theorem pageBits_toNat (a : Word) : (a &&& 0x380).toNat = 128 * (a.toNat % 1024 / 128) := by
  have hbits : a &&& (0x380 : Word) = ((a.extractLsb' 7 3).setWidth 32) <<< 7 := by
    ext i hi
    interval_cases i <;> simp
  rw [hbits, BitVec.toNat_shiftLeft, BitVec.toNat_setWidth, BitVec.extractLsb'_toNat, Nat.shiftRight_eq_div_pow,
    Nat.shiftLeft_eq]
  omega

theorem pageBits_eq_iff (a : Word) {w : Word} {n : Nat} (hw : w.toNat = 128 * n) :
    (a &&& 0x380) = w ↔ a.toNat % 1024 / 128 = n := by
  rw [← BitVec.toNat_inj, pageBits_toNat, hw]
  omega

/-- Where the page of a transfer is left behind (R455). -/
theorem pageCrossed_eq (k : Stk) (spilled : Bool) (a : Word) (s : State) : pageCrossed k spilled a s =
    (!s.mode.getLsbD (boundaryBit k) && decide (a.toNat % 1024 / 128 = if spilled then 0 else 7)) := by
  have hedge : ((a &&& 0x380) == (if spilled then 0 else 0x380 : Word)) =
      decide (a.toNat % 1024 / 128 = if spilled then 0 else 7) := by
    rw [Bool.eq_iff_iff, beq_iff_eq, decide_eq_true_iff]
    cases spilled
    · exact pageBits_eq_iff a (n := 7) rfl
    · exact pageBits_eq_iff a (n := 0) rfl
  rw [pageCrossed, hedge]

/-- The bits of the page exception of a stack are those that `pageException` lists. -/
theorem pageException_eq {k : Stk} {spilled : Bool} {x : Trap} {sig en bound : Nat}
    (h : (x, sig, en, bound) = pageException k spilled) :
    x = pageTrap k spilled ∧ trapBits x = some (sig, en) ∧ bound = boundaryBit k ∧ sig ≠ bound := by
  cases k <;> cases spilled <;> cases h <;> decide

/-- The exception of a crossing, bit by bit. -/
theorem notePage_bit {k : Stk} {spilled : Bool} {sig en : Nat} (hx : trapBits (pageTrap k spilled) = some (sig, en))
    (a : Word) (s : State) (j : Nat) : (notePage k spilled a s).mode.getLsbD j =
      (s.mode.getLsbD j || (pageCrossed k spilled a s && (decide (j = sig) || decide (j = boundaryBit k)))) := by
  unfold notePage
  split <;> rename_i hc
  · rw [signal_mode _ hx, setBoundary, setMode_mode, getLsbD_putBit _ (trapBits_lt hx).1,
      getLsbD_putBit _ (boundaryBit_lt k), hc]
    by_cases hj : j = sig
    · simp [hj]
    · by_cases hb : j = boundaryBit k <;> simp [hj, hb]
  · rw [Bool.eq_false_iff.2 hc]
    simp

theorem trapEnables_setBoundary (k : Stk) (b : Bool) (s : State) {en : Nat} (hen : en ≠ boundaryBit k) :
    (trapEnables (setBoundary k b s)).getLsbD en = (trapEnables s).getLsbD en := by
  unfold trapEnables
  rw [setBoundary_ctl]
  cases s.ctl.enOld
  · exact (getLsbD_putBit _ (boundaryBit_lt k) _ _).trans (if_neg hen)
  · rfl

theorem notePage_pending {k : Stk} {spilled : Bool} {sig en : Nat}
    (hx : trapBits (pageTrap k spilled) = some (sig, en)) (hen : en ≠ boundaryBit k) (a : Word) (s : State) (u : Trap) :
    u ∈ (notePage k spilled a s).ctl.pending ↔ u ∈ s.ctl.pending ∨
      (u = pageTrap k spilled ∧ pageCrossed k spilled a s = true ∧ (trapEnables s).getLsbD en = true) := by
  unfold notePage
  split <;> rename_i hc
  · rw [mem_signal_pending _ hx, trapEnables_setBoundary k true s hen, setBoundary_ctl]
    simp [hc]
  · simp [hc]

theorem checkPage_bit (k : Stk) (spilled : Bool) (a : Word) (s : State) (j : Nat) :
    (checkPage k spilled a s).mode.getLsbD j = ((notePage k spilled a s).mode.getLsbD j &&
      !(decide (j = boundaryBit k) && decide ((pagePointer spilled a).toNat % 1024 / 128 = 4))) := by
  have hmid := pageBits_eq_iff (pagePointer spilled a) (w := 0x200) (n := 4) rfl
  rw [checkPage_eq]
  split <;> rename_i hp
  · rw [setBoundary, setMode_mode, getLsbD_putBit _ (boundaryBit_lt k), decide_eq_true (hmid.1 hp)]
    by_cases hj : j = boundaryBit k <;> simp [hj]
  · rw [decide_eq_false (fun h => hp (hmid.2 h))]
    simp

theorem checkPage_pending (k : Stk) (spilled : Bool) (a : Word) (s : State) :
    (checkPage k spilled a s).ctl.pending = (notePage k spilled a s).ctl.pending := by
  rw [checkPage_eq]
  split <;> simp

/-- Settles O54: `CheckPage` bit by bit. -/
theorem pageExceptions : Obligations.PageExceptions := by
  intro s t k spilled crossed a p x sig en bound hx ht hcr hp
  obtain ⟨rfl, hbits, rfl, hne⟩ := pageException_eq hx
  have hcrossed : crossed = pageCrossed k spilled a s := by rw [hcr, pageCrossed_eq]
  have hen : en ≠ boundaryBit k := by cases k <;> cases spilled <;> cases hx <;> decide
  have hpointer : pagePointer spilled a = p := hp.symm
  subst ht hcrossed
  refine ⟨?_, ?_, fun j hsig hbound => ?_, fun u => ?_, by simp, by simp, by simp, by simp⟩
  · rw [checkPage_bit, notePage_bit hbits]
    simp [hne]
  · rw [checkPage_bit, notePage_bit hbits, hpointer]
    simp
  · rw [checkPage_bit, notePage_bit hbits]
    simp [hsig, hbound]
  · rw [checkPage_pending, notePage_pending hbits hen]

end Sys2Proof.Machine
end

section
/-! The end of a step: the single-step trap, the end of the blocking of interrupts, a trap at `step` itself
(10_state.md R65, R67, 60_exceptions.md R466, R472). -/

namespace Sys2Proof.Machine

section
variable {s : State}

/-- A stack within its bounds is left as it is (10_state.md R35). -/
theorem settleRaw_self {k : Stk} (hmost : (stackOf k s).cells.length ≤ mostCells k)
    (hleast : (stackOf k s).active = true → leastCells k ≤ (stackOf k s).cells.length) : settleRaw k s = s := by
  have htrim : (stackOf k s).cells.length - mostCells k = 0 := by omega
  rw [settleRaw, htrim, iter, fillActive]
  split
  · rename_i hactive
    have hfill : leastCells k - (stackOf k s).cells.length = 0 := by have := hleast hactive; omega
    rw [fill, hfill, iter]
  · rfl

theorem normalizeRaw_self (hos : s.osWithin) (hls : s.lsWithin) : normalizeRaw s = s := by
  rw [normalizeRaw_eq, settleRaw_self (k := .os) hos.2.1 hos.2.2, settleRaw_self (k := .ls) hls.1 hls.2]

theorem nestTraps_none (fuel : Nat) (ra : Word) (h : s.ctl.pending = []) : nestTraps fuel ra s = (ra, s) := by
  cases fuel <;> simp [nestTraps, h]

/-- The state of one trap nested: its return address pushed, the trap no longer pending (60_exceptions.md R472). -/
def trapNested (ra : Word) (s : State) : State := pushL ra (s.setCtl { s.ctl with pending := [] })

/-- One pending trap, with room for its return address: no spill and no refill comes between. -/
theorem enterTraps_single {t : Trap} (hp : s.ctl.pending = [t]) (hos : s.osWithin) (hls : s.ls.cells.length < 15) :
    enterTraps s = enterGroup (vectorOf t) (setIntBlock true (trapNested s.flow.pc s)) := by
  have hremove : removePending t s = s.setCtl { s.ctl with pending := [] } := by simp [removePending, hp]
  have hsettled : normalizeRaw (trapNested s.flow.pc s) = trapNested s.flow.pc s :=
    normalizeRaw_self hos ⟨hls, fun _ => Nat.le_add_left 1 _⟩
  have hnest (n : Nat) : nestTraps (n + 1) s.flow.pc s = (vectorOf t, trapNested s.flow.pc s) := by
    rw [nestTraps, hp]
    simp only [lowestTrap, hremove]
    rw [← trapNested, hsettled, nestTraps_none n _ rfl]
  rw [enterTraps, show 64 + 2 * s.plat.bus.length = (63 + 2 * s.plat.bus.length) + 1 by omega, hnest]

theorem takePending_single {t : Trap} (hq : s.busQuiet) (hp : s.ctl.pending = [t]) (hos : s.osWithin)
    (hls : s.ls.cells.length < 15) :
    takePending s = (setIntBlock true (trapNested s.flow.pc s)).enteredAt (vectorOf t) := by
  obtain ⟨hposted, hbus, hstuck⟩ := hq
  have henter : enterTraps s = (setIntBlock true (trapNested s.flow.pc s)).enteredAt (vectorOf t) := by
    rw [enterTraps_single hp hos hls]
    exact enterGroup_quiet _ _ hposted hbus hstuck
  rw [takePending, takeTraps, if_neg (by rw [hp]; exact List.cons_ne_nil _ _), henter]
  cases s.plat.bus.length + 2 with
  | zero => rfl
  | succ n => rfl

theorem takePending_none (hp : s.ctl.pending = []) : takePending s = s := by
  rw [takePending, takeTraps, if_pos hp]

/-- After the instruction that `step` transferred to, with room for the return address (R466). -/
theorem endStep_stepping {i : Instr} (hp : s.ctl.pending = []) (hi : i ≠ .step) (hq : s.busQuiet) (hos : s.osWithin)
    (hls : s.ls.cells.length < 15) :
    endStep i true s = .next (((s.localsGrown (s.flow.pc :: s.ls.cells)).setCtl
      { s.ctl with intBlock := true, stepPending := false }).enteredAt 0x138) := by
  have hadd : addPending .step (setStepPending false s) =
      s.setCtl { s.ctl with stepPending := false, pending := [.step] } := by
    simp [addPending, setStepPending, hp]
  have hctl : { s.ctl with intBlock := true, stepPending := false } =
      { s.ctl with intBlock := true, stepPending := false, pending := [] } := by rw [← hp]
  rw [endStep, if_neg hi, if_pos rfl, hadd,
    takePending_single (s := s.setCtl { s.ctl with stepPending := false, pending := [.step] }) (t := .step) hq
      rfl hos hls, hctl]
  rfl

/-- The bus stays as it is through the end of a posted write. -/
theorem postedTick_stuck (s : State) : (postedTick s).plat.stuck = s.plat.stuck := by
  unfold postedTick
  split
  · rfl
  · rename_i p hposted
    split
    · split
      · rename_i hd
        rw [finishPosted_some hposted, if_pos hd]
        split <;> simp
      · rfl
    · rfl

theorem releaseBlock_frame (i : Instr) (p : BitVec 2) (s : State) :
    (releaseBlock i p s).ctl.pending = s.ctl.pending ∧ (releaseBlock i p s).plat = s.plat := by
  unfold releaseBlock
  split
  · exact ⟨rfl, rfl⟩
  · exact ⟨rfl, rfl⟩

theorem releaseBlock_eq (i : Instr) (p : BitVec 2) (s : State) :
    releaseBlock i p s = if p = 1 ∧ i ≠ .bkpt then s.setCtl { s.ctl with intBlock := false } else s := by
  simp [releaseBlock, setIntBlock]

theorem endStep_step_refused (b : Bool) (hp : s.ctl.pending ≠ []) (hs : s.plat.stuck = false) :
    endStep .step b s = .refused .trapAtStep := by
  rw [endStep, if_pos rfl, if_neg (by simp [hp, hs])]

/-- The updates of the inputs leave what the instruction works on. -/
theorem samplePins_frame (samples : List Byte) (s : State) : (samplePins samples s).flow = s.flow ∧
    (samplePins samples s).ctl = s.ctl ∧ (samplePins samples s).plat.stuck = s.plat.stuck := by
  unfold samplePins
  split
  · exact ⟨rfl, rfl, rfl⟩
  · exact List.foldlRecOn (motive := fun u : State =>
      u.flow = s.flow ∧ u.ctl = s.ctl ∧ u.plat.stuck = s.plat.stuck) _ intcTick ⟨rfl, rfl, rfl⟩ fun u hu _ _ => hu

theorem takeInput_frame (s : State) : (takeInput s).2.flow = s.flow ∧ (takeInput s).2.ctl = s.ctl ∧
    (takeInput s).2.plat.stuck = s.plat.stuck := by
  unfold takeInput
  split
  · exact ⟨rfl, rfl, rfl⟩
  · exact ⟨rfl, rfl, rfl⟩

end

/-- A step of the machine that runs `step` and leaves a trap pending (U16). -/
theorem step_trapAtStep {s v w t : State} {g : Word} (hs : s.plat.stuck = false) (hg : s.flow.grp = some g)
    (hr : (takeInput s).1.reset = none) (hv : v = samplePins (takeInput s).1.samples (takeInput s).2)
    (hp : s.ctl.pending = []) (hrec : (recognize v).1 = none) (hd : decode g (byteIndex s.flow.pc) = .ok .step)
    (hx : exec .step (beginInstr (recognize v).2) = .next w) (hn : normalize s.flow.npc w = .next t)
    (hpend : (postedTick t).ctl.pending ≠ []) (ht : t.plat.stuck = false) : step s = .refused .trapAtStep := by
  obtain ⟨hflow, hctl, hstuck⟩ := samplePins_frame (takeInput s).1.samples (takeInput s).2
  obtain ⟨hflow', hctl', hstuck'⟩ := takeInput_frame s
  rw [← hv, hflow'] at hflow
  rw [← hv, hctl'] at hctl
  rw [← hv, hstuck', hs] at hstuck
  obtain ⟨rflow, rctl⟩ := recognize_frame v
  have hlatch : latchGroup v = v := by rw [latchGroup, hflow, hg, if_neg (by simp)]
  have hgroup : group (recognize v).2 = g := by rw [group, rflow, hflow, hg]; rfl
  have hdec : decode (group (recognize v).2) (byteIndex (recognize v).2.flow.pc) = .ok .step := by
    rw [hgroup, rflow, hflow, hd]
  have hcell : nextCell .step (recognize v).2 = s.flow.npc := by rw [nextCell, if_neg (by decide), rflow, hflow]
  obtain ⟨relpend, relplat⟩ := releaseBlock_frame .step (byteIndex (recognize v).2.flow.pc) (postedTick t)
  rw [step_noReset hs hr hv, runStep_runInstr hlatch hstuck (by rw [hctl, hp]) hrec, runInstr_ok hdec, hx, andThen_next,
    hcell, complete, hn, andThen_next, endStep_step_refused _ (by rw [relpend]; exact hpend)
      (by rw [relplat, postedTick_stuck, ht])]
  rfl

/-- Settles O47, by what `endStep` and `releaseBlock` do in each case. -/
theorem singleStep : Obligations.SingleStep := by
  refine ⟨fun s i hp hi => ⟨?_, fun hq hos _ hls => endStep_stepping hp hi hq hos hls⟩, fun s b hp => ?_,
    fun s i p => releaseBlock_eq i p s, ?_⟩
  · rw [endStep, if_neg hi, if_neg (by decide), takePending_none hp]
  · rw [endStep, if_pos rfl, if_pos (.inl hp)]
  · intro s v w t g hs hg hr hv hp hrec hd hx hn hpend ht
    exact step_trapAtStep hs hg hr hv hp hrec hd hx hn hpend ht

end Sys2Proof.Machine
end

section
/-! The rules that a plain stack instruction is proved by: its opcode, its operands, the cells it leaves. -/

namespace Sys2Proof.Machine

/-- A whole-byte opcode spells its instruction wherever it stands (30_encoding.md R120, R130). -/
theorem spells_of_decodeOpcode {b : Byte} {i : Instr} (htop : 4 ≤ (b.extractLsb' 3 5).toNat) (hb : b ≠ 0x90)
    (h : ∀ literal, decodeOpcode b literal = i) : Spells b i := by
  intro g p hg
  have hne (n : BitVec 5) (hn : n.toNat < 4) : b.extractLsb' 3 5 ≠ n := fun heq => by rw [heq] at htop; omega
  unfold decode
  simp only [hg]
  rw [if_neg (hne 0 (by decide)), if_neg (hne 1 (by decide)), if_neg (hne 2 (by decide)), if_neg (hne 3 (by decide)),
    if_neg fun hlit => hb hlit.1, h]

section
variable {s : State}

theorem cell_zero {n : Word} {rest : List Word} (h : s.os.cells = n :: rest) : cell 0 s = n := by simp [cell, h]

theorem cell_one {n m : Word} {rest : List Word} (h : s.os.cells = n :: m :: rest) : cell 1 s = m := by simp [cell, h]

theorem cell_two {n m l : Word} {rest : List Word} (h : s.os.cells = n :: m :: l :: rest) : cell 2 s = l := by
  simp [cell, h]

/-- Cells replaced on a stack that does not grow, and is allocated where it shrinks (10_state.md R29). -/
theorem replaceS_stack {k : Nat} {vs rest : List Word} (hrest : s.os.cells.drop k = rest)
    (hk : vs.length = k ∨ (vs.length < k ∧ s.os.active = true)) : replaceS k vs s = .next (s.stack (vs ++ rest)) := by
  have hgrow : decide (k < vs.length) = false := by simp; omega
  rw [replaceS_next s (hk.imp (fun h => h.ge) And.right), hrest, hgrow, Bool.or_false]
  rfl

theorem stackResult_stack {k : Nat} {vs rest : List Word} (hrest : s.os.cells.drop k = rest)
    (hk : vs.length = k ∨ (vs.length < k ∧ s.os.active = true)) :
    stackResult k vs s = .next (advance (s.stack (vs ++ rest))) := by
  rw [stackResult, replaceS_stack hrest hk]
  rfl

end

end Sys2Proof.Machine
end

section
/-! Shifts in closed form (10_state.md R42, 41_alu_shift_muldiv.md R200 to R209). -/

namespace Sys2Proof.Machine

theorem iter_succ_apply {α : Type} (n : Nat) (f : α → α) (a : α) : iter (n + 1) f a = f (iter n f a) := by
  induction n generalizing a with
  | zero => rfl
  | succ n ih => exact ih (f a)

/-! Right shifts. -/

/-- One more bit shifted into the GRS extension (R42). -/
theorem grsAfter_succ (out : Nat → Bool) (n : Nat) (e : Grs) :
    grsAfter out (n + 1) e = grsShiftIn (out n) (grsAfter out n e) := by
  match n with
  | 0 => simp [grsAfter, grsShiftIn]
  | 1 => simp [grsAfter, grsShiftIn]
  | n + 2 => simp [grsAfter, grsShiftIn, List.range_succ, Bool.or_assoc]

theorem grsAfter_zero (out : Nat → Bool) (e : Grs) : grsAfter out 0 e = e := by simp [grsAfter]

section
variable {w : Nat}

/-- Bit `i` of a value shifted right is the bit that leaves `i` steps later. -/
theorem getLsbD_shiftedRight (c : Bool) (v : BitVec w) (n i : Nat) :
    (shiftedRight c v n).getLsbD i = (decide (i < w) && bitLeaving c v (n + i)) := by
  by_cases hi : i < w
  · by_cases hn : n + i < w
    · cases c <;> simp [shiftedRight, bitLeaving, hi, hn]
    · have hout := BitVec.getLsbD_of_ge v (n + i) (by omega)
      cases c <;> simp [shiftedRight, bitLeaving, hi, hn, hout]
  · rw [BitVec.getLsbD_of_ge _ _ (by omega)]
    simp [hi]

theorem shiftRightStep_shiftedRight (c : Bool) (v : BitVec w) (n : Nat) (e : Grs) (hw : 0 < w) :
    shiftRightStep c (shiftedRight c v n, e) = (shiftedRight c v (n + 1), grsShiftIn (bitLeaving c v n) e) := by
  refine Prod.ext (BitVec.eq_of_getLsbD_eq fun i hi => ?_) ?_
  · have htop : (if c then BitVec.twoPow w (w - 1) else 0).getLsbD i = (c && decide (i = w - 1)) := by
      cases c
      · simp
      · simp [BitVec.getLsbD_twoPow, hw, eq_comm]
    simp only [shiftRightStep, BitVec.getLsbD_or, BitVec.getLsbD_ushiftRight, htop, getLsbD_shiftedRight]
    by_cases hlast : i = w - 1
    · have h1 : ¬ 1 + i < w := by omega
      have h2 : ¬ n + 1 + i < w := by omega
      rw [decide_eq_true hlast, decide_eq_false h1, decide_eq_true hi]
      simp [bitLeaving, h2]
    · have h1 : 1 + i < w := by omega
      simp [hi, hlast, h1, Nat.add_assoc]
  · rw [shiftRightStep, getLsbD_shiftedRight, decide_eq_true hw]
    rfl

theorem shiftedRight_zero (c : Bool) (v : BitVec w) : shiftedRight c v 0 = v := by cases c <;> simp [shiftedRight]

theorem shiftedRight_false (v : BitVec w) (n : Nat) : shiftedRight false v n = v >>> n := by simp [shiftedRight]

/-- The loop of a right shift in closed form. -/
theorem iter_shiftRightStep (c : Bool) (v : BitVec w) (e : Grs) (hw : 0 < w) (n : Nat) :
    iter n (shiftRightStep c) (v, e) = (shiftedRight c v n, grsAfter (bitLeaving c v) n e) := by
  induction n with
  | zero => rw [iter, shiftedRight_zero, grsAfter_zero]
  | succ n ih => rw [iter_succ_apply, ih, shiftRightStep_shiftedRight c v n _ hw, grsAfter_succ]

/-! Left shifts. -/

/-- The carry a left shift leaves: the last bit that left. -/
def carryAfter (v : BitVec w) (c : Bool) (n : Nat) : Bool :=
  if n = 0 then c else if n ≤ w then v.getLsbD (w - n) else false

theorem iter_shiftLeftStep (v : BitVec w) (c : Bool) (n : Nat) :
    iter n shiftLeftStep (v, c) = (v <<< n, carryAfter v c n) := by
  induction n with
  | zero => simp [iter, carryAfter]
  | succ n ih =>
    rw [iter_succ_apply, ih, shiftLeftStep, ← BitVec.shiftLeft_add]
    refine Prod.ext rfl ?_
    simp only [carryAfter, BitVec.msb_eq_getLsbD_last, BitVec.getLsbD_shiftLeft, Nat.succ_ne_zero, if_false]
    by_cases hn : n + 1 ≤ w
    · have h1 : w - 1 - n = w - (n + 1) := by omega
      have h2 : w - 1 < w := by omega
      have h3 : ¬ w - 1 < n := by omega
      simp [hn, h1, h2, h3]
    · by_cases hw : 0 < w
      · have h3 : w - 1 < n := by omega
        simp [hn, h3]
      · simp [hn, hw]

end

end Sys2Proof.Machine
end

section
/-! The shift instructions (41_alu_shift_muldiv.md R201 to R209). -/

namespace Sys2Proof.Machine

theorem shiftCount_eq (c : Word) : shiftCount c = c.toNat % 64 := by
  simp [shiftCount, BitVec.extractLsb'_toNat]

theorem shiftsRight_eq (c : Word) : shiftsRight c = c.msb := by
  rw [shiftsRight, BitVec.msb_eq_getLsbD_last]

/-- Settles O17: the loops of the two shifts in closed form. -/
theorem shiftByCount : Obligations.ShiftByCount := by
  refine ⟨spells_of_decodeOpcode (by decide) (by decide) fun _ => rfl,
    spells_of_decodeOpcode (by decide) (by decide) fun _ => rfl,
    fun s c v rest hc ha => ⟨fun hdir => ?_, fun hdir => ?_⟩,
    fun s c hi lo rest hc ha => ⟨fun hdir => ?_, fun hdir => ?_⟩⟩
  · simp only [exec, execShift, cell_zero hc, cell_one hc, shiftsRight_eq, shiftCount_eq, hdir, Bool.false_eq_true,
      if_false, iter_shiftLeftStep]
    exact stackResult_stack (s := setCarry _ s) (by simp [setCarry, hc]) (.inr ⟨Nat.lt_succ_self _, ha⟩)
  · simp only [exec, execShift, cell_zero hc, cell_one hc, shiftsRight_eq, shiftCount_eq, hdir, if_true,
      iter_shiftRightStep _ _ _ (show 0 < 32 by decide)]
    exact stackResult_stack (s := setGrs _ s) (by simp [setGrs, hc]) (.inr ⟨Nat.lt_succ_self _, ha⟩)
  · have hcarry : carryAfter (hi ++ lo) s.carry (c.toNat % 64) =
        if c.toNat % 64 = 0 then s.carry else (hi ++ lo).getLsbD (64 - c.toNat % 64) := by
      rw [carryAfter, if_pos (show c.toNat % 64 ≤ 32 + 32 by omega)]
    simp only [exec, execShiftd, cell_zero hc, cell_one hc, cell_two hc, shiftsRight_eq, shiftCount_eq, hdir,
      Bool.false_eq_true, if_false, iter_shiftLeftStep, hcarry]
    exact stackResult_stack (s := setCarry _ s) (by simp [setCarry, hc]) (.inr ⟨Nat.lt_succ_self _, ha⟩)
  · simp only [exec, execShiftd, cell_zero hc, cell_one hc, cell_two hc, shiftsRight_eq, shiftCount_eq, hdir, if_true,
      iter_shiftRightStep _ _ _ (show 0 < 32 + 32 by decide)]
    exact stackResult_stack (s := setGrs _ s) (by simp [setGrs, hc]) (.inr ⟨Nat.lt_succ_self _, ha⟩)

/-! The shifts by a fixed count. -/

theorem any_range_bits (n : Word) :
    ((List.range 6).any fun j => n.getLsbD j) = decide (n &&& 0x3F ≠ 0) := by
  have hzero : n &&& 0x3F = 0 ↔ ∀ j < 6, n.getLsbD j = false := by
    refine ⟨fun h j hj => ?_, fun h => ?_⟩
    · have hbit : (n &&& 0x3F).getLsbD j = false := by rw [h]; simp
      interval_cases j <;> simpa using hbit
    · apply BitVec.eq_of_getLsbD_eq
      intro i hi
      rw [BitVec.getLsbD_and]
      by_cases h6 : i < 6
      · simp [h i h6]
      · have hge : 6 ≤ i := Nat.le_of_not_lt h6
        interval_cases i <;> simp
  rw [Bool.eq_iff_iff, List.any_eq_true, decide_eq_true_iff, Ne, hzero]
  simp

theorem shiftedRight_one (c : Bool) (n : Word) :
    shiftedRight c n 1 = (n >>> 1) ||| (if c then 0x80000000 else 0) := rfl

theorem shiftedRight_eight (c : Bool) (n : Word) :
    shiftedRight c n 8 = (n >>> 8) ||| (if c then 0xFF000000 else 0) := rfl

/-- The GRS extension after a byte has been shifted into it (R205). -/
theorem grsAfter_eight (c : Bool) (n : Word) (e : Grs) : grsAfter (bitLeaving c n) 8 e =
    ⟨n.getLsbD 7, n.getLsbD 6, e.sticky || e.round || e.guard || decide (n &&& 0x3F ≠ 0)⟩ := by
  rw [← any_range_bits]
  rfl

/-- The bits of a cell pair. -/
theorem getLsbD_pair (hi lo : Word) (i : Nat) :
    (hi ++ lo : BitVec 64).getLsbD i = if i < 32 then lo.getLsbD i else hi.getLsbD (i - 32) := BitVec.getLsbD_append

/-- The cells of a pair shifted left (R203). -/
theorem pair_shiftLeft_one (hi lo : Word) :
    ((hi ++ lo : BitVec 64) <<< 1).extractLsb' 32 32 = (hi <<< 1) ||| (lo >>> 31) ∧
    ((hi ++ lo : BitVec 64) <<< 1).extractLsb' 0 32 = lo <<< 1 := by
  constructor <;> apply BitVec.eq_of_getLsbD_eq <;> intro i hi'
  · simp only [BitVec.getLsbD_extractLsb', BitVec.getLsbD_shiftLeft, getLsbD_pair, BitVec.getLsbD_or,
      BitVec.getLsbD_ushiftRight]
    grind
  · simp only [BitVec.getLsbD_extractLsb', BitVec.getLsbD_shiftLeft, getLsbD_pair]
    grind

/-- The cells of a pair shifted right (R206). -/
theorem pair_shiftedRight_one (c : Bool) (hi lo : Word) :
    (shiftedRight c (hi ++ lo : BitVec 64) 1).extractLsb' 32 32 = (hi >>> 1) ||| (if c then 0x80000000 else 0) ∧
    (shiftedRight c (hi ++ lo : BitVec 64) 1).extractLsb' 0 32 = (hi <<< 31) ||| (lo >>> 1) := by
  constructor <;> apply BitVec.eq_of_getLsbD_eq <;> intro i hi'
  · rw [← shiftedRight_one]
    simp only [BitVec.getLsbD_extractLsb', getLsbD_shiftedRight, bitLeaving, getLsbD_pair]
    grind
  · simp only [BitVec.getLsbD_extractLsb', getLsbD_shiftedRight, bitLeaving, getLsbD_pair, BitVec.getLsbD_or,
      BitVec.getLsbD_ushiftRight, BitVec.getLsbD_shiftLeft]
    grind

/-- The shifts of one cell by a fixed count. -/
theorem exec_cellShifts (s : State) (n1 : Word) (rest : List Word) (hc : s.os.cells = n1 :: rest) :
    exec .shl1 s = .next (advance ((s.stack ((n1 <<< 1) :: rest)).withCarry (n1.getLsbD 31))) ∧
    exec .shl8 s = .next (advance ((s.stack ((n1 <<< 8) :: rest)).withCarry (n1.getLsbD 24))) ∧
    exec .shr1 s = .next (advance
      ((s.stack (((n1 >>> 1) ||| (if s.carry then 0x80000000 else 0)) :: rest)).withGrs
        ⟨n1.getLsbD 0, (grsOf s.mode).guard, (grsOf s.mode).sticky || (grsOf s.mode).round⟩)) ∧
    exec .shr8 s = .next (advance
      ((s.stack (((n1 >>> 8) ||| (if s.carry then 0xFF000000 else 0)) :: rest)).withGrs
        ⟨n1.getLsbD 7, n1.getLsbD 6,
          (grsOf s.mode).sticky || (grsOf s.mode).round || (grsOf s.mode).guard || decide (n1 &&& 0x3F ≠ 0)⟩)) := by
  have hdrop : s.os.cells.drop 1 = rest := by simp [hc]
  refine ⟨?_, ?_, ?_, ?_⟩
  · simp only [exec, execShl1, cell_zero hc]
    exact stackResult_stack (s := setCarry _ s) hdrop (.inl rfl)
  · simp only [exec, execShl8, cell_zero hc]
    exact stackResult_stack (s := setCarry _ s) hdrop (.inl rfl)
  · simp only [exec, execShr1, cell_zero hc, shiftRightStep]
    rw [BitVec.or_comm]
    exact stackResult_stack (s := setGrs _ s) hdrop (.inl rfl)
  · simp only [exec, execShr8, cell_zero hc, iter_shiftRightStep _ _ _ (show 0 < 32 by decide), grsAfter_eight]
    rw [shiftedRight_eight]
    exact stackResult_stack (s := setGrs _ s) hdrop (.inl rfl)

/-- The shifts of a cell pair by one bit. -/
theorem exec_pairShifts (s : State) (hi lo : Word) (rest : List Word) (hc : s.os.cells = hi :: lo :: rest) :
    exec .shld1 s = .next (advance
      ((s.stack (((hi <<< 1) ||| (lo >>> 31)) :: (lo <<< 1) :: rest)).withCarry (hi.getLsbD 31))) ∧
    exec .shrd1 s = .next (advance
      ((s.stack (((hi >>> 1) ||| (if s.carry then 0x80000000 else 0)) :: ((hi <<< 31) ||| (lo >>> 1)) :: rest)).withGrs
        ⟨lo.getLsbD 0, (grsOf s.mode).guard, (grsOf s.mode).sticky || (grsOf s.mode).round⟩)) := by
  have hdrop : s.os.cells.drop 2 = rest := by simp [hc]
  have hpair : cellPair s = hi ++ lo := by rw [cellPair, cell_zero hc, cell_one hc]
  refine ⟨?_, ?_⟩
  · obtain ⟨hhigh, hlow⟩ := pair_shiftLeft_one hi lo
    have hmsb : (hi ++ lo : BitVec 64).msb = hi.getLsbD 31 := by
      rw [BitVec.msb_eq_getLsbD_last, getLsbD_pair]
      rfl
    simp only [exec, execShld1, hpair, shiftLeftStep, hhigh, hlow, hmsb]
    exact stackResult_stack (s := setCarry _ s) hdrop (.inl rfl)
  · obtain ⟨hhigh, hlow⟩ := pair_shiftedRight_one s.carry hi lo
    have hlast : (hi ++ lo : BitVec 64).getLsbD 0 = lo.getLsbD 0 := by rw [getLsbD_pair]; rfl
    have hstep := shiftRightStep_shiftedRight s.carry (hi ++ lo : BitVec 64) 0 (grsOf s.mode) (by decide)
    rw [shiftedRight_zero] at hstep
    simp only [exec, execShrd1, hpair, hstep, hhigh, hlow, bitLeaving, hlast, grsShiftIn, Nat.zero_lt_succ, if_true]
    exact stackResult_stack (s := setGrs _ s) hdrop (.inl rfl)

/-- Settles O16, from the closed forms for the counts one and eight. -/
theorem fixedShifts : Obligations.FixedShifts := by
  refine ⟨spells_of_decodeOpcode (by decide) (by decide) fun _ => rfl,
    spells_of_decodeOpcode (by decide) (by decide) fun _ => rfl,
    spells_of_decodeOpcode (by decide) (by decide) fun _ => rfl,
    spells_of_decodeOpcode (by decide) (by decide) fun _ => rfl,
    spells_of_decodeOpcode (by decide) (by decide) fun _ => rfl,
    spells_of_decodeOpcode (by decide) (by decide) fun _ => rfl, exec_cellShifts, exec_pairShifts⟩

end Sys2Proof.Machine
end

section
/-! The floating-point shifts to the right (48_float.md R400, R409, R410). -/

namespace Sys2Proof.Machine

/-! The fields of a floating-point cell (R400). -/

/-- `Exp(v)` as a number. -/
theorem expOf_single (v : Word) : expOf false v = v.toNat / 2 ^ 23 % 256 := by
  have hfield : (v &&& expMask false) >>> hiddenPos false = (v.extractLsb' 23 8).setWidth 32 := by
    ext i hi
    simp only [expMask, hiddenPos]
    interval_cases i <;> simp
  rw [expOf, hfield, BitVec.toNat_setWidth, BitVec.extractLsb'_toNat, Nat.shiftRight_eq_div_pow]
  omega

theorem expOf_double (v : Word) : expOf true v = v.toNat / 2 ^ 20 % 2048 := by
  have hfield : (v &&& expMask true) >>> hiddenPos true = (v.extractLsb' 20 11).setWidth 32 := by
    ext i hi
    simp only [expMask, hiddenPos]
    interval_cases i <;> simp
  rw [expOf, hfield, BitVec.toNat_setWidth, BitVec.extractLsb'_toNat, Nat.shiftRight_eq_div_pow]
  omega

theorem expField_single (n : Nat) : expField false n = BitVec.ofNat 32 (n % 256 * 2 ^ 23) := by
  apply BitVec.eq_of_getLsbD_eq
  intro i hi
  simp only [expField, expMask, hiddenPos, BitVec.ofInt_natCast, BitVec.getLsbD_and, BitVec.getLsbD_shiftLeft,
    BitVec.getLsbD_ofNat, Nat.testBit_mul_two_pow, show (256 : Nat) = 2 ^ 8 from rfl, Nat.testBit_mod_two_pow]
  interval_cases i <;> simp

theorem expField_double (n : Nat) : expField true n = BitVec.ofNat 32 (n % 2048 * 2 ^ 20) := by
  apply BitVec.eq_of_getLsbD_eq
  intro i hi
  simp only [expField, expMask, hiddenPos, BitVec.ofInt_natCast, BitVec.getLsbD_and, BitVec.getLsbD_shiftLeft,
    BitVec.getLsbD_ofNat, Nat.testBit_mul_two_pow, show (2048 : Nat) = 2 ^ 11 from rfl, Nat.testBit_mod_two_pow]
  interval_cases i <;> simp

theorem grsAny_eq (e : Grs) : grsAny e = decide (eighths e ≠ 0) := by
  obtain ⟨g, r, t⟩ := e
  revert g r t
  decide

/-! Writing a significand back. -/

section
variable {s : State}

/-- Signalling does not change the precision. -/
theorem signal_double (x : Trap) (s : State) : (signal x s).double = s.double := by
  cases hx : trapBits x with
  | none => simp [signal, hx, State.double]
  | some p =>
    have hsig : bitPrecision ≠ p.1 := by cases x <;> cases hx <;> decide
    rw [State.double, signal_mode s hx, getLsbD_putBit _ (trapBits_lt hx).1, if_neg hsig, State.double]

theorem signalWhen_double (c : Bool) (x : Trap) (s : State) : (signalWhen c x s).double = s.double := by
  cases c
  · rfl
  · exact signal_double x s

theorem setGrs_double (e : Grs) (s : State) : (setGrs e s).double = s.double := by
  rw [State.double, setGrs, setMode_mode, getLsbD_putGrs]
  rfl

/-- What `denorm` and `normr` leave but for the significand: the GRS extension, the exponent field of `ct`, the
signals (R409, R410). -/
def normalizedState (e : Grs) (exponent : Int) (signals : State → State) (s : State) : State :=
  signalWhen (decide (eighths e ≠ 0)) .fpNrm (signals ((s.withGrs e).setCt (withExp s.double s.ct exponent)))

theorem normalizedResult_eq {signals : State → State} (hos : ∀ u, (signals u).os = u.os)
    (hd : ∀ u, (signals u).double = u.double) (v : BitVec 64) (e : Grs) (exponent : Int) {rest : List Word}
    (hrest : s.os.cells.drop (if s.double then 2 else 1) = rest) :
    normalizedResult v e exponent signals s = .next (advance ((normalizedState e exponent signals s).stack
      (if s.double then v.extractLsb' 32 32 :: v.extractLsb' 0 32 :: rest else v.extractLsb' 0 32 :: rest))) := by
  have hdouble : (normalizedState e exponent signals s).double = s.double := by
    rw [normalizedState, signalWhen_double, hd]
    exact setGrs_double e s
  have hcells : (normalizedState e exponent signals s).os = s.os := by
    rw [normalizedState, signalWhen_os, hos]
    rfl
  have hresult : normalizedResult v e exponent signals s = sigResult v (normalizedState e exponent signals s) := by
    rw [normalizedResult, normalizedState, grsAny_eq]
    rfl
  rw [hresult, sigResult, hdouble]
  cases hs : s.double
  · rw [hs] at hrest
    exact stackResult_stack (by rw [hcells]; exact hrest) (.inl rfl)
  · rw [hs] at hrest
    exact stackResult_stack (by rw [hcells]; exact hrest) (.inl rfl)

/-! The significand operand. -/

theorem sigOperand_single {n1 : Word} {rest : List Word} (hc : s.os.cells = n1 :: rest) (hd : s.double = false) :
    sigOperand s = n1.setWidth 64 := by rw [sigOperand, hd, cell_zero hc]; rfl

theorem sigOperand_double {hi lo : Word} {rest : List Word} (hc : s.os.cells = hi :: lo :: rest)
    (hd : s.double = true) : sigOperand s = hi ++ lo := by rw [sigOperand, hd, cell_zero hc, cell_one hc]; rfl

theorem extractLsb_setWidth_shift (n1 : Word) (k : Nat) : (n1.setWidth 64 >>> k).extractLsb' 0 32 = n1 >>> k := by
  apply BitVec.eq_of_getLsbD_eq
  intro i hi
  simp only [BitVec.getLsbD_extractLsb', BitVec.getLsbD_ushiftRight, BitVec.getLsbD_setWidth]
  by_cases h64 : k + i < 64
  · simp [hi, h64]
  · simp [BitVec.getLsbD_of_ge n1 (k + i) (by omega)]

theorem bitLeaving_setWidth (n1 : Word) : bitLeaving false (n1.setWidth 64) = bitLeaving false n1 := by
  funext j
  simp only [bitLeaving, BitVec.getLsbD_setWidth]
  by_cases h64 : j < 64
  · by_cases h32 : j < 32
    · simp [h32, h64]
    · simp [h32, h64, BitVec.getLsbD_of_ge n1 j (by omega)]
  · have h32 : ¬ j < 32 := by omega
    simp [h32, h64]

end

/-! `denorm`. -/

theorem denormValue_eq (d : Bool) (c : Nat) (v : BitVec 64) (e : Grs) : denormValue d c (v, e) =
    (if sigWidth d + 3 < c then 0 else v >>> c,
      if sigWidth d + 3 < c then ⟨false, false, true⟩ else grsAfter (bitLeaving false v) c e) := by
  unfold denormValue
  split
  · rfl
  · rw [iter_shiftRightStep _ _ _ (by decide), shiftedRight_false]

theorem withExp_zero (d : Bool) (v : Word) : withExp d v 0 = v &&& ~~~expMask d := by
  have hfield : expField d 0 = 0 := by cases d <;> decide
  rw [withExp, hfield]
  exact BitVec.or_zero

/-- Settles O42: the loop of `denorm` in closed form. -/
theorem denormalize : Obligations.Denormalize := by
  refine ⟨spells_of_decodeOpcode (by decide) (by decide) fun _ => rfl, fun s n1 rest c e hc hd hcount he => ?_,
    fun s hi lo rest c e v hc hd hcount hv he => ?_⟩
  · have hsig : (if 26 < c then 0 else n1.setWidth 64 >>> c).extractLsb' 0 32 = if 26 < c then 0 else n1 >>> c := by
      split
      · rfl
      · exact extractLsb_setWidth_shift n1 c
    simp only [exec, execDenorm]
    rw [normalizedResult_eq (signals := id) (fun _ => rfl) (fun _ => rfl) _ _ _ (rest := rest) (by simp [hc, hd]),
      normalizedState, hd, sigOperand_single hc hd, expOf_single, ← hcount, denormValue_eq, withExp_zero]
    simp only [sigWidth, Bool.false_eq_true, if_false, bitLeaving_setWidth]
    rw [← he, hsig]
    rfl
  · simp only [exec, execDenorm]
    rw [normalizedResult_eq (signals := id) (fun _ => rfl) (fun _ => rfl) _ _ _ (rest := rest) (by simp [hc, hd]),
      normalizedState, hd, sigOperand_double hc hd, expOf_double, ← hcount, denormValue_eq, withExp_zero]
    simp only [sigWidth, if_true]
    rw [← he, ← hv]
    rfl

/-! `normr`. -/

/-- Is an exponent bit above the hidden bit set, bit 31 not counted (D19)? -/
def exponentClear (d : Bool) (v : BitVec 64) : Prop := sigTop d v &&& (expMask d &&& ~~~hiddenBit d) = 0

/-- The loop of `normr` ends at the least count that clears those bits. -/
theorem normrLoop_eq (d : Bool) {v : BitVec 64} {e : Grs} {k fuel : Nat} (hk : k ≤ fuel)
    (hclear : exponentClear d (v >>> k)) (hleast : ∀ j < k, ¬ exponentClear d (v >>> j)) :
    normrLoop d fuel (v, e) = ((v >>> k, grsAfter (bitLeaving false v) k e), k) := by
  rw [← shiftedRight_false v k, ← iter_shiftRightStep false v e (by decide)]
  have hfst (n : Nat) : (iter n (shiftRightStep false) (v, e)).1 = v >>> n := by
    rw [iter_shiftRightStep _ _ _ (by decide), shiftedRight_false]
  have hloop : ∀ n ≤ k, ∀ f, n ≤ f → normrLoop d f (iter (k - n) (shiftRightStep false) (v, e)) =
      (iter k (shiftRightStep false) (v, e), n) := by
    intro n
    induction n with
    | zero =>
      intro _ f _
      rw [Nat.sub_zero]
      cases f with
      | zero => rfl
      | succ f =>
        rw [normrLoop, if_pos]
        rw [hfst]
        exact hclear
    | succ n ih =>
      intro hn f hf
      obtain ⟨f, rfl⟩ : ∃ m, f = m + 1 := ⟨f - 1, by omega⟩
      rw [normrLoop, if_neg]
      · have hnext := iter_succ_apply (k - (n + 1)) (shiftRightStep false) (v, e)
        rw [← hnext, show k - (n + 1) + 1 = k - n by omega, ih (by omega) f (by omega)]
      · rw [hfst]
        exact hleast _ (by omega)
  have hall := hloop k le_rfl fuel hk
  rwa [Nat.sub_self] at hall

theorem exponentClear_single (n1 : Word) (j : Nat) :
    exponentClear false (n1.setWidth 64 >>> j) ↔ (n1 >>> j) &&& 0x7F000000 = 0 := by
  rw [exponentClear, sigTop, if_neg (by decide), extractLsb_setWidth_shift]
  exact Iff.rfl

theorem exponentClear_double (v : BitVec 64) : exponentClear true v ↔ v &&& 0x7FE0000000000000 = 0 := by
  have hhigh : (v &&& 0x7FE0000000000000).extractLsb' 32 32 =
      sigTop true v &&& (expMask true &&& ~~~hiddenBit true) := by
    rw [BitVec.extractLsb'_and]
    rfl
  have hlow : (v &&& 0x7FE0000000000000).extractLsb' 0 32 = 0 := by
    rw [BitVec.extractLsb'_and]
    exact BitVec.and_zero
  rw [exponentClear, ← hhigh]
  refine ⟨fun h => BitVec.eq_of_getLsbD_eq fun i hi => ?_, fun h => by rw [h]; rfl⟩
  by_cases h32 : i < 32
  · have hbit := congrArg (BitVec.getLsbD · i) hlow
    simpa [h32] using hbit
  · have hbit := congrArg (BitVec.getLsbD · (i - 32)) h
    simpa [show i - 32 < 32 by omega, show 32 + (i - 32) = i by omega] using hbit

/-- After eleven shifts no exponent bit above the hidden bit is left, in either precision. -/
theorem exponentClear_eleven_single (n1 : Word) : exponentClear false (n1.setWidth 64 >>> 11) := by
  rw [exponentClear_single]
  ext i hi
  interval_cases i <;> simp

theorem exponentClear_eleven_double (v : BitVec 64) : exponentClear true (v >>> 11) := by
  rw [exponentClear_double]
  ext i hi
  interval_cases i <;> simp

theorem expMax_single_le (n : Nat) : expMax false ≤ n ↔ 255 ≤ n := Nat.ofNat_le_cast

theorem expMax_double_le (n : Nat) : expMax true ≤ n ↔ 2047 ≤ n := Nat.ofNat_le_cast

/-- The least count that clears the bits is within the bound of the loop. -/
theorem leastCount_le {p : Nat → Prop} {k n : Nat} (hn : p n) (hleast : ∀ j < k, ¬ p j) : k ≤ n :=
  Nat.le_of_not_lt fun h => hleast n h hn

/-- `normr` in closed form, in either precision. -/
theorem execNormr_eq {s : State} {v : BitVec 64} {k : Nat} {rest : List Word} (hv : sigOperand s = v) (hk : k ≤ 11)
    (hclear : exponentClear s.double (v >>> k)) (hleast : ∀ j < k, ¬ exponentClear s.double (v >>> j))
    (hrest : s.os.cells.drop (if s.double then 2 else 1) = rest) :
    exec .normr s = .next (advance ((normalizedState (grsAfter (bitLeaving false v) k (grsOf s.mode))
      (expOf s.double s.ct + k : Nat)
      (signalWhen (decide (0 < k ∧ expMax s.double ≤ (expOf s.double s.ct + k : Nat))) .fpOvf) s).stack
      (if s.double then (v >>> k).extractLsb' 32 32 :: (v >>> k).extractLsb' 0 32 :: rest
        else (v >>> k).extractLsb' 0 32 :: rest))) := by
  rw [← normalizedResult_eq (fun u => signalWhen_os u _ _) (signalWhen_double _ _) _ _ _ hrest]
  simp only [exec, execNormr, hv, normrLoop_eq _ hk hclear hleast, Bool.decide_and, Nat.cast_add]

/-- Settles O43: the loop of `normr` in closed form. -/
theorem normalizeRight : Obligations.NormalizeRight := by
  refine ⟨spells_of_decodeOpcode (by decide) (by decide) fun _ => rfl, fun s n1 rest k e hc hd hclear hleast he => ?_,
    fun s hi lo rest k e hc hd hclear hleast he => ?_⟩
  · have hleast' : ∀ j < k, ¬ exponentClear s.double (n1.setWidth 64 >>> j) := fun j hj => by
      rw [hd, exponentClear_single]
      exact hleast j hj
    have hk : k ≤ 11 := leastCount_le (by rw [hd]; exact exponentClear_eleven_single n1) hleast'
    rw [execNormr_eq (sigOperand_single hc hd) hk (by rw [hd, exponentClear_single]; exact hclear) hleast'
      (rest := rest) (by simp [hc, hd]), normalizedState, withExp]
    simp only [hd, expOf_single, expField_single, expMax_single_le, bitLeaving_setWidth, ← he, Bool.false_eq_true,
      if_false, extractLsb_setWidth_shift]
    rfl
  · have hleast' : ∀ j < k, ¬ exponentClear s.double ((hi ++ lo : BitVec 64) >>> j) := fun j hj => by
      rw [hd, exponentClear_double]
      exact hleast j hj
    have hk : k ≤ 11 := leastCount_le (by rw [hd]; exact exponentClear_eleven_double (hi ++ lo)) hleast'
    rw [execNormr_eq (sigOperand_double hc hd) hk (by rw [hd, exponentClear_double]; exact hclear) hleast'
      (rest := rest) (by simp [hc, hd]), normalizedState, withExp]
    simp only [hd, expOf_double, expField_double, expMax_double_le, ← he, if_true]
    rfl

end Sys2Proof.Machine
end

section
/-! Reads and writes of memory that no canonical form is asked of (20_memory.md R82, R87). -/

namespace Sys2Proof.Machine.Memory

/-- A byte that is not written is as before, whatever the form of the list. -/
theorem readByte_writeByte_ne (m : List Host.Cell) {a b : Nat} (v : Byte) (hb : b ≠ a) :
    readByte (writeByte m a v) b = readByte m b := by
  have hb' : ¬ a = b := fun h => hb h.symm
  induction m with
  | nil => by_cases hv : v = unwritten <;> simp [writeByte, readByte, hv, hb']
  | cons c rest ih =>
    unfold writeByte
    split
    · split
      · rfl
      · simp [readByte, hb']
    · split
      · rename_i hac
        have hcb : ¬ c.1 = b := fun h => hb (by rw [hac, h])
        split <;> simp [readByte, hb', hcb]
      · by_cases hcb : c.1 = b <;> simp [readByte, hcb, ih]

theorem cellAddress_eq_iff (a b : Word) : cellAddress a = cellAddress b ↔ a.toNat / 4 = b.toNat / 4 := by
  rw [← BitVec.toNat_inj, cellAddress_toNat, cellAddress_toNat]
  omega

/-- A byte of another cell than the one written is as before. -/
theorem readByte_writeCell_ne (m : List Host.Cell) (a v : Word) {b : Nat} (hb : b / 4 ≠ a.toNat / 4) :
    readByte (writeCell m a v) b = readByte m b := by
  have ha := cellAddress_toNat a
  simp only [writeCell]
  rw [readByte_writeByte_ne _ _ (by omega), readByte_writeByte_ne _ _ (by omega), readByte_writeByte_ne _ _ (by omega),
    readByte_writeByte_ne _ _ (by omega)]

/-- Another cell than the one written is as before. -/
theorem readCell_writeCell_ne (m : List Host.Cell) (a v : Word) {b : Word} (hb : b.toNat / 4 ≠ a.toNat / 4) :
    readCell (writeCell m a v) b = readCell m b := by
  have hbase := cellAddress_toNat b
  simp only [readCell]
  rw [readByte_writeCell_ne _ _ _ (by omega), readByte_writeCell_ne _ _ _ (by omega),
    readByte_writeCell_ne _ _ _ (by omega), readByte_writeCell_ne _ _ _ (by omega)]

end Sys2Proof.Machine.Memory
end

section
/-! The refills and the spills of a stack in closed form (10_state.md R28, R32). -/

namespace Sys2Proof.Machine

/-! Refills. -/

/-- What `n` refills of the stack `k` on a quiet bus make of `s`. -/
structure Refilled (k : Stk) (n : Nat) (s t : State) : Prop where
  stack : stackOf k t =
    { cells := (stackOf k s).cells ++ (List.range n).map
        fun j => Memory.readCell s.mem ((stackOf k s).ptr + BitVec.ofNat 32 (4 * (j + 1)))
      ptr := (stackOf k s).ptr + BitVec.ofNat 32 (4 * n), active := (stackOf k s).active }
  other : ∀ k' : Stk, k' ≠ k → stackOf k' t = stackOf k' s
  plat : t.plat = s.plat
  mem : t.mem = s.mem
  flow : t.flow = s.flow
  registers : t.g = s.g ∧ t.x = s.x ∧ t.ct = s.ct
  res : t.res = s.res

theorem refill_quiet_res_plat (k : Stk) {s : State} (hq : s.busQuiet) :
    (refill k s).res = s.res ∧ (refill k s).plat = s.plat := by
  obtain ⟨hp, hb, hs⟩ := hq
  simp [refill, busRead_quiet s _ hp hb hs]

theorem ptr_add_succ (p : Word) (n : Nat) :
    p + BitVec.ofNat 32 (4 * n) + 4 = p + BitVec.ofNat 32 (4 * (n + 1)) := by
  apply BitVec.eq_of_toNat_eq
  have h4 : (4 : Word).toNat = 4 := rfl
  simp only [BitVec.toNat_add, BitVec.toNat_ofNat, h4]
  omega

theorem refilled_succ {k : Stk} {n : Nat} {s t : State} (hq : s.busQuiet) (h : Refilled k n s t) :
    Refilled k (n + 1) s (refill k t) := by
  obtain ⟨hstack, hother, hplat, hmem, hflow, ⟨hg, hx, hct⟩, hres⟩ := h
  have hqt : t.busQuiet := by unfold State.busQuiet; rw [hplat]; exact hq
  obtain ⟨hp, hb, hs⟩ := hqt
  obtain ⟨hres', hplat'⟩ := refill_quiet_res_plat k ⟨hp, hb, hs⟩
  refine ⟨?_, fun k' hk => by rw [stackOf_refill_other hk, hother k' hk], hplat'.trans hplat, by rw [refill_mem, hmem],
    by rw [refill_flow, hflow], ⟨by rw [refill_g, hg], by rw [refill_x, hx], by rw [refill_ct, hct]⟩, hres'.trans hres⟩
  rw [stackOf_refill, busRead_quiet t _ hp hb hs, hstack, hmem]
  simp only [ptr_add_succ, List.range_succ, List.map_append, List.map_cons, List.map_nil, List.append_assoc]

theorem iter_refill (k : Stk) (n : Nat) {s : State} (hq : s.busQuiet) : Refilled k n s (iter n (refill k) s) := by
  induction n with
  | zero =>
    refine ⟨?_, fun _ _ => rfl, rfl, rfl, rfl, ⟨rfl, rfl, rfl⟩, rfl⟩
    rw [iter, List.range_zero, List.map_nil, List.append_nil, Nat.mul_zero]
    simp
  | succ n ih =>
    rw [iter_succ_apply]
    exact refilled_succ hq ih

/-- Settles O34, by induction on the number of refills. -/
theorem refills : Obligations.Refills := by
  intro k m s t st hq hst ht
  obtain ⟨hstack, hother, -, hmem, hflow, ⟨hg, hx, hct⟩, hres⟩ :=
    iter_refill k (m - (stackOf k s).cells.length) hq
  subst hst ht
  exact ⟨hstack, hother, hmem, hflow, hg, hx, hct, hres⟩

/-! Spills. -/

/-- The platform has no answer in store, the CPU does not wait, and a write in progress will end without a fault: every
transfer completes, as on a quiet bus, also between writes that are posted (20_memory.md R95). -/
def State.busHarmless (s : State) : Prop :=
  s.plat.bus = [] ∧ s.plat.stuck = false ∧ ∀ p, s.plat.posted = some p → p.dval = true ∧ p.faultb = false

theorem State.busQuiet.harmless {s : State} (h : s.busQuiet) : s.busHarmless :=
  ⟨h.2.1, h.2.2, fun p hp => by rw [h.1] at hp; cases hp⟩

/-- Once the write in progress has ended the bus is quiet. -/
theorem finishPosted_harmless {s : State} (h : s.busHarmless) :
    finishPosted s = s.setPlat { s.plat with posted := none } := by
  cases hp : s.plat.posted with
  | none => rw [finishPosted_none hp, ← hp]; rfl
  | some p =>
    obtain ⟨hd, hf⟩ := h.2.2 p hp
    rw [finishPosted_some hp, hd, hf]
    rfl

theorem busWrite_harmless (a v : Word) {s : State} (h : s.busHarmless) :
    (busWrite a v s).mem = Memory.writeCell s.mem a v ∧ (busWrite a v s).res = s.res ∧
      (busWrite a v s).busHarmless := by
  have hfin := finishPosted_harmless h
  have hquiet : (s.setPlat { s.plat with posted := none }).busQuiet := ⟨rfl, h.1, h.2.1⟩
  have hidem : finishPosted (finishPosted s) = finishPosted s := finishPosted_none (by rw [hfin]; rfl)
  rw [busWrite_finishPosted a v hidem, hfin, busWrite_quiet a v hquiet]
  split
  · refine ⟨rfl, rfl, h.1, h.2.1, fun p hp => ?_⟩
    cases hp
    exact ⟨rfl, rfl⟩
  · exact ⟨rfl, rfl, hquiet.harmless⟩

/-- What `n` spills of the stack `k` make of `s`, where every transfer completes. -/
structure Spilled (k : Stk) (n : Nat) (s t : State) : Prop where
  stack : stackOf k t =
    { cells := (stackOf k s).cells.take ((stackOf k s).cells.length - n)
      ptr := (stackOf k s).ptr - BitVec.ofNat 32 (4 * n), active := (stackOf k s).active }
  canonical : Memory.wf s.mem = true → Memory.wf t.mem = true
  written : Memory.wf s.mem = true → ∀ j < n, Memory.readCell t.mem ((stackOf k s).ptr - BitVec.ofNat 32 (4 * j)) =
    (stackOf k s).cells.getD ((stackOf k s).cells.length - 1 - j) 0
  kept : ∀ b : Nat, (∀ j < n, b / 4 ≠ ((stackOf k s).ptr - BitVec.ofNat 32 (4 * j)).toNat / 4) →
    Memory.readByte t.mem b = Memory.readByte s.mem b
  other : ∀ k' : Stk, k' ≠ k → stackOf k' t = stackOf k' s
  harmless : t.busHarmless
  flow : t.flow = s.flow
  registers : t.g = s.g ∧ t.x = s.x ∧ t.ct = s.ct
  res : t.res = s.res

/-- The cells below a pointer are different cells, as long as there are fewer than the memory holds. -/
theorem cellsBelow_ne (p : Word) {i j : Nat} (hij : i < j) (hj : j ≤ 1024) :
    (p - BitVec.ofNat 32 (4 * i)).toNat / 4 ≠ (p - BitVec.ofNat 32 (4 * j)).toNat / 4 := by
  have := p.isLt
  simp only [BitVec.toNat_sub, BitVec.toNat_ofNat]
  omega

theorem ptr_sub_succ (p : Word) (n : Nat) :
    p - BitVec.ofNat 32 (4 * n) - 4 = p - BitVec.ofNat 32 (4 * (n + 1)) := by
  apply BitVec.eq_of_toNat_eq
  have h4 : (4 : Word).toNat = 4 := rfl
  simp only [BitVec.toNat_sub, BitVec.toNat_ofNat, h4]
  omega

/-- The deepest cell on chip after `n` spills. -/
theorem getLastD_take (cells : List Word) {n : Nat} (hn : n < cells.length) :
    (cells.take (cells.length - n)).getLastD 0 = cells.getD (cells.length - 1 - n) 0 := by
  rw [List.getLastD_eq_getLast?, List.getLast?_eq_getElem?, List.length_take, List.getElem?_take,
    List.getD_eq_getElem?_getD, min_eq_left (by omega), if_pos (by omega),
    show cells.length - n - 1 = cells.length - 1 - n by omega]

theorem spillRaw_mem_res (k : Stk) {s : State} (h : s.busHarmless) :
    (spillRaw k s).mem = Memory.writeCell s.mem (stackOf k s).ptr ((stackOf k s).cells.getLastD 0) ∧
      (spillRaw k s).res = s.res ∧ (spillRaw k s).busHarmless := by
  obtain ⟨hmem, hres, hharm⟩ := busWrite_harmless (stackOf k s).ptr ((stackOf k s).cells.getLastD 0) h
  refine ⟨by simpa [spillRaw] using hmem, by simpa [spillRaw] using hres, ?_⟩
  simpa [spillRaw, State.busHarmless] using hharm

theorem spilled_succ {k : Stk} {n : Nat} {s t : State} (hn : n < (stackOf k s).cells.length) (hmany : n ≤ 1024)
    (h : Spilled k n s t) : Spilled k (n + 1) s (spillRaw k t) := by
  obtain ⟨hstack, hcanon, hwritten, hkept, hother, hharm, hflow, ⟨hg, hx, hct⟩, hres⟩ := h
  obtain ⟨hmem, hres', hharm'⟩ := spillRaw_mem_res k hharm
  simp only [hstack, getLastD_take _ hn] at hmem
  refine ⟨?_, fun hwf => ?_, fun hwf j hj => ?_, fun b hb => ?_,
    fun k' hk => by rw [stackOf_spillRaw_other hk, hother k' hk], hharm', by rw [spillRaw_flow, hflow],
    ⟨by rw [spillRaw_g, hg], by rw [spillRaw_x, hx], by rw [spillRaw_ct, hct]⟩, hres'.trans hres⟩
  · rw [stackOf_spillRaw, hstack]
    simp only [ptr_sub_succ, List.dropLast_eq_take, List.length_take, List.take_take]
    congr 2
    omega
  · rw [hmem]
    exact Memory.writeCell_wf _ _ (hcanon hwf)
  · rw [hmem]
    rcases Nat.lt_succ_iff_lt_or_eq.1 hj with hlt | rfl
    · rw [Memory.readCell_writeCell_ne _ _ _ (cellsBelow_ne _ hlt hmany), hwritten hwf j hlt]
    · exact Memory.readCell_writeCell _ _ (hcanon hwf)
  · rw [hmem, Memory.readByte_writeCell_ne _ _ _ (hb n (Nat.lt_succ_self n)),
      hkept b fun j hj => hb j (Nat.lt_succ_of_lt hj)]

theorem iter_spillRaw (k : Stk) {n : Nat} {s : State} (hq : s.busQuiet) (hn : n ≤ (stackOf k s).cells.length)
    (hmany : n ≤ 1024) : Spilled k n s (iter n (spillRaw k) s) := by
  induction n with
  | zero =>
    refine ⟨?_, id, fun _ _ hj => absurd hj (Nat.not_lt_zero _), fun _ _ => rfl, fun _ _ => rfl, hq.harmless, rfl,
      ⟨rfl, rfl, rfl⟩, rfl⟩
    rw [iter, Nat.sub_zero, List.take_length, Nat.mul_zero]
    simp
  | succ n ih =>
    rw [iter_succ_apply]
    exact spilled_succ hn (by omega) (ih (by omega) (by omega))

/-- Spills that never write the cell at `npc` are not refused. -/
theorem iterO_spill_next {npc : Word} {k : Stk} {n : Nat} {s : State}
    (h : ∀ j < n, (stackOf k (iter j (spillRaw k) s)).ptr.toNat / 4 ≠ npc.toNat / 4) :
    iterO n (spill npc k) s = .next (iter n (spillRaw k) s) := by
  induction n generalizing s with
  | zero => rfl
  | succ n ih =>
    have hmiss : hitsPrefetch npc (stackOf k s).ptr (spillRaw k s) = false := by
      have hne : Memory.cellAddress (stackOf k s).ptr ≠ Memory.cellAddress npc := fun heq =>
        h 0 (Nat.succ_pos n) ((Memory.cellAddress_eq_iff _ _).1 heq)
      rw [hitsPrefetch, beq_false_of_ne hne, Bool.false_and]
    rw [iterO, spill]
    simp only [hmiss, Bool.false_eq_true, if_false, andThen_next]
    exact ih fun j hj => h (j + 1) (Nat.succ_lt_succ hj)

/-- Settles O35, by induction on the number of spills. -/
theorem spills : Obligations.Spills := by
  intro npc k m d s st hq hst hd hmany hmiss
  subst hst
  have hle : d ≤ (stackOf k s).cells.length := by omega
  have htrim : trim npc k m s = .next (iter d (spillRaw k) s) := by
    rw [trim, ← hd]
    refine iterO_spill_next fun j hj => ?_
    rw [(iter_spillRaw k hq (by omega) (by omega) : Spilled k j s _).stack]
    exact hmiss j hj
  have htake : (stackOf k s).cells.take ((stackOf k s).cells.length - d) = (stackOf k s).cells.take m := by
    rw [hd, List.take_eq_take_iff]
    omega
  obtain ⟨hstack, -, hwritten, hkept, hother, -, hflow, ⟨hg, hx, hct⟩, hres⟩ := iter_spillRaw k hq hle hmany
  rw [htake] at hstack
  exact ⟨_, htrim, hstack, hwritten, hkept, hother, hflow, hg, hx, hct, hres⟩

end Sys2Proof.Machine
end

section
/-! `mode`, the enable of interrupts, and the on-chip resource registers (10_state.md R46, R50 to R60,
49_debug_onchip_misc.md R432 to R437). -/

namespace Sys2Proof.Machine

/-! `pop mode`, `ei`, `di`. -/

/-- Settles O27: `pop mode` by the bits of `writtenMode`, `ei` and `di` by definition. -/
theorem modeAndEnable : Obligations.ModeAndEnable := by
  refine ⟨spells_of_decodeOpcode (by decide) (by decide) fun _ => rfl,
    spells_of_decodeOpcode (by decide) (by decide) fun _ => rfl,
    spells_of_decodeOpcode (by decide) (by decide) fun _ => rfl, fun s n rest hc ha => ?_, fun s => ⟨rfl, rfl⟩⟩
  refine ⟨writtenMode s.mode n, fun k hk => getLsbD_writtenMode _ _ hk, ?_⟩
  simp only [exec, execPopMode, cell_zero hc]
  exact stackResult_stack (s := (noteTrapEnables (noteEnable s)).setMode (writtenMode s.mode n)) (rest := rest)
    (by simp [noteTrapEnables, noteEnable, hc]) (.inr ⟨Nat.zero_lt_one, ha⟩)

/-! The addresses of the registers and of their bits (R50, R52). -/

theorem byteRegAt_baseOf (r : ByteReg) : byteRegAt (BitVec.ofNat 32 (baseOf r)) = some r := by cases r <;> decide

theorem bitAddress (r : ByteReg) (k : Fin 8) : bitRegAt (BitVec.ofNat 32 (baseOf r + k.val)) = some r ∧
    bitIndex (BitVec.ofNat 32 (baseOf r + k.val)) = k.val := by
  cases r <;> revert k <;> decide

section
variable {s : State}

theorem resRead_byteReg {a : Word} {r : ByteReg} (h : byteRegAt a = some r) :
    resRead a s = some ((readByteReg r s).setWidth 32, s) := by
  unfold resRead
  rw [h]

theorem execLdo_some {a v : Word} {u : State} {rest : List Word} (hc : s.os.cells = a :: rest)
    (hr : resRead a s = some (v, u)) (hu : u.os = s.os) : exec .ldo s = .next (advance (u.stack (v :: rest))) := by
  simp only [exec, execLdo, cell_zero hc, hr]
  exact stackResult_stack (by simp [hu, hc]) (.inl rfl)

theorem execLdoI_some {a : Word} {r : ByteReg} {rest : List Word} (hc : s.os.cells = a :: rest)
    (hr : bitRegAt a = some r) : exec .ldoI s = .next (advance
      (s.stack ((if (readByteReg r s).getLsbD (bitIndex a) then 0xFFFFFFFF else 0) :: rest))) := by
  simp only [exec, execLdoI, cell_zero hc, hr]
  exact stackResult_stack (by simp [hc]) (.inl rfl)

end

/-- Settles O48, address by address. -/
theorem resourceReads : Obligations.ResourceReads := by
  refine ⟨spells_of_decodeOpcode (by decide) (by decide) fun _ => rfl,
    spells_of_decodeOpcode (by decide) (by decide) fun _ => rfl, fun s a rest hc => ⟨fun r ha => ?_, fun ha hl => ?_,
      fun ha hl => ?_, fun ha => ?_, fun r k ha => ?_⟩⟩
  · rw [BitVec.ofNat_toNat]
    exact execLdo_some hc (resRead_byteReg (by rw [ha, byteRegAt_baseOf])) rfl
  · refine execLdo_some (u := s.setRes { s.res with mfltLatched := false }) hc ?_ rfl
    subst ha
    rw [resRead, show byteRegAt 0x120 = none by decide]
    simp only [if_true, hl]
  · refine execLdo_some (u := s) hc ?_ rfl
    subst ha
    rw [resRead, show byteRegAt 0x140 = none by decide]
    simp only [hl, if_true]
    rfl
  · refine ⟨miscc s, ?_, execLdo_some hc ?_ rfl⟩
    · rw [miscc, getLsbD_putBit _ Config.mspweBit.isLt, if_pos rfl]
    · subst ha
      rw [resRead, show byteRegAt 0x1A0 = none by decide]
      rfl
  · obtain ⟨hreg, hbit⟩ := bitAddress r k
    rw [← ha] at hreg hbit
    rw [execLdoI_some hc hreg, hbit]

/-! Writes. -/

/-- The latch of a memory fault and `mspwe`, which no write of a bit-addressable register touches. -/
def Resources.faultPart (r : Resources) : Bool × Word × Word × Bool := (r.mspwe, r.mfltaddr, r.mfltdata, r.mfltLatched)

theorem readByteReg_writeByteReg (q r : ByteReg) (v : Byte) (s : State) : readByteReg q (writeByteReg r v s) =
    if q = r then (if r = .ioin then v &&& s.plat.pins else v) else readByteReg q s := by
  cases r <;> cases q <;> rfl

theorem readByteReg_writeByteRegBit (q r : ByteReg) (k j : Fin 8) (b : Bool) (s : State) :
    (readByteReg q (writeByteRegBit r k.val b s)).getLsbD j.val =
      if q = r ∧ j = k then b && (decide (r ≠ .ioin) || s.plat.pins.getLsbD k.val)
      else (readByteReg q s).getLsbD j.val := by
  have hbit (w : Byte) (c : Bool) : (putByteBit w k.val c).getLsbD j.val = if j = k then c else w.getLsbD j.val := by
    rw [getLsbD_putByteBit _ k.isLt]
    simp only [Fin.val_inj]
  by_cases hq : q = r
  · subst hq
    cases q <;> simp only [readByteReg, writeByteRegBit, setRes_res, hbit] <;> simp
  · rw [if_neg fun h => hq h.1]
    cases r <;> cases q <;> simp [readByteReg, writeByteRegBit] at hq ⊢

theorem writeByteReg_faultPart (r : ByteReg) (v : Byte) (s : State) :
    (writeByteReg r v s).res.faultPart = s.res.faultPart := by cases r <;> rfl

theorem writeByteRegBit_faultPart (r : ByteReg) (k : Nat) (b : Bool) (s : State) :
    (writeByteRegBit r k b s).res.faultPart = s.res.faultPart := by cases r <;> rfl

/-- A register write is a write of the resources, on a state with other cells as well. -/
theorem writeByteReg_stack (r : ByteReg) (v : Byte) (s : State) (cells : List Word) :
    writeByteReg r v (s.stack cells) = (s.stack cells).setRes (writeByteReg r v s).res := by cases r <;> rfl

theorem writeByteRegBit_stack (r : ByteReg) (k : Nat) (b : Bool) (s : State) (cells : List Word) :
    writeByteRegBit r k b (s.stack cells) = (s.stack cells).setRes (writeByteRegBit r k b s).res := by
  cases r <;> rfl

theorem readByteReg_setRes (q : ByteReg) (s t : State) : readByteReg q (s.setRes t.res) = readByteReg q t := by
  cases q <;> rfl

section
variable {s : State} {a n : Word} {rest : List Word}

theorem execSto_some (hc : s.os.cells = a :: n :: rest) (ha : s.os.active = true) {u : State}
    (hw : resWrite a n (s.stack (n :: rest)) = some u) : exec .sto s = .next (advance u) := by
  have hpop : replaceS 1 [] s = .next (s.stack (n :: rest)) :=
    replaceS_stack (by simp [hc]) (.inr ⟨Nat.zero_lt_one, ha⟩)
  simp only [exec, execSto, hpop, andThen_next, cell_zero hc, cell_one hc, hw]

theorem execStoI_some (hc : s.os.cells = a :: n :: rest) (ha : s.os.active = true) {r : ByteReg}
    (hr : bitRegAt a = some r) :
    exec .stoI s = .next (advance (writeByteRegBit r (bitIndex a) (n != 0) (s.stack (n :: rest)))) := by
  have hpop : replaceS 1 [] s = .next (s.stack (n :: rest)) :=
    replaceS_stack (by simp [hc]) (.inr ⟨Nat.zero_lt_one, ha⟩)
  simp only [exec, execStoI, hpop, andThen_next, cell_zero hc, cell_one hc, hr]

theorem resWrite_byteReg {r : ByteReg} (h : byteRegAt a = some r) (v : Word) (u : State) :
    resWrite a v u = some (writeByteReg r (v.setWidth 8) u) := by
  unfold resWrite
  rw [h]

end

/-- Settles O49, address by address. -/
theorem resourceWrites : Obligations.ResourceWrites := by
  refine ⟨spells_of_decodeOpcode (by decide) (by decide) fun _ => rfl,
    spells_of_decodeOpcode (by decide) (by decide) fun _ => rfl,
    fun s a n rest hc hact => ⟨fun r ha => ?_, fun ha => ?_, fun ha => ?_, fun r k ha => ?_⟩⟩
  · have hfault := writeByteReg_faultPart r (n.setWidth 8) s
    simp only [Resources.faultPart, Prod.mk.injEq] at hfault
    refine ⟨(writeByteReg r (n.setWidth 8) s).res, ?_, fun q => ?_, hfault⟩
    · rw [← writeByteReg_stack]
      exact execSto_some hc hact (resWrite_byteReg (by rw [ha, byteRegAt_baseOf]) n _)
    · rw [readByteReg_setRes, readByteReg_writeByteReg]
  · refine execSto_some hc hact ?_
    have hnone : byteRegAt a = none := by rcases ha with rfl | rfl <;> decide
    rw [resWrite, hnone]
    exact if_pos ha
  · refine execSto_some hc hact ?_
    subst ha
    rw [resWrite, show byteRegAt 0x1A0 = none by decide]
    rfl
  · obtain ⟨hreg, hbit⟩ := bitAddress r k
    rw [← ha] at hreg hbit
    have hfault := writeByteRegBit_faultPart r k.val (n != 0) s
    simp only [Resources.faultPart, Prod.mk.injEq] at hfault
    refine ⟨(writeByteRegBit r k.val (n != 0) s).res, ?_, fun q j => ?_, hfault⟩
    · rw [execStoI_some hc hact hreg, hbit, writeByteRegBit_stack]
    · rw [readByteReg_setRes, readByteReg_writeByteRegBit, show (n != 0) = decide (n ≠ 0) by rw [Bool.eq_iff_iff]; simp]

end Sys2Proof.Machine
end

section
/-! Two states that the bus cannot tell apart: what a transfer does to the platform and to memory depends on the
platform, memory, `mspwe` and the free values only (20_memory.md R92 to R99). -/

namespace Sys2Proof.Machine

/-- The bus finds the same platform, memory, `mspwe` and free values in both states. -/
structure BusEq (s t : State) : Prop where
  plat : t.plat = s.plat
  mem : t.mem = s.mem
  mspwe : t.res.mspwe = s.res.mspwe
  free : t.free = s.free

section
variable {s t : State}

theorem finishPosted_bus (s : State) : (finishPosted s).plat.bus = s.plat.bus := by
  cases hp : s.plat.posted with
  | none => rw [finishPosted_none hp]
  | some p =>
    rw [finishPosted_some hp]
    split
    · split <;> simp
    · rfl

theorem busAnswer_finishPosted (s : State) : busAnswer (finishPosted s) = busAnswer s := by
  rw [busAnswer, busAnswer, finishPosted_bus]

theorem finishPosted_busEq (h : BusEq s t) : BusEq (finishPosted s) (finishPosted t) := by
  obtain ⟨hplat, hmem, hmspwe, hfree⟩ := h
  refine ⟨?_, by simpa using hmem, by simpa using hmspwe, by simpa using hfree⟩
  cases hp : s.plat.posted with
  | none => rw [finishPosted_none hp, finishPosted_none (by rw [hplat, hp]), hplat]
  | some p =>
    rw [finishPosted_some hp, finishPosted_some (s := t) (by rw [hplat, hp])]
    split
    · split <;> simp [hplat]
    · simp [hang, hplat]

theorem busReady_busEq (h : BusEq s t) : BusEq (busReady s) (busReady t) := by
  obtain ⟨hplat, hmem, hmspwe, hfree⟩ := finishPosted_busEq h
  exact ⟨by simp [busReady, hplat], by simpa [busReady] using hmem, by simpa [busReady] using hmspwe,
    by simpa [busReady] using hfree⟩

theorem busRead_busEq (a : Word) (h : BusEq s t) :
    (busRead a t).1 = (busRead a s).1 ∧ BusEq (busRead a s).2 (busRead a t).2 := by
  have hfin := finishPosted_busEq h
  have hready := busReady_busEq h
  have hans : busAnswer (finishPosted t) = busAnswer (finishPosted s) := by rw [busAnswer, busAnswer, hfin.plat]
  unfold busRead
  simp only [hans, hfin.plat, freeVal, hready.free, h.free, hready.mem]
  split
  · exact ⟨rfl, hfin⟩
  · obtain ⟨hplat, hmem, hmspwe, hfree⟩ := hready
    split
    · exact ⟨rfl, by simp [hang, hplat], hmem, hmspwe, by simp [useFree, h.free]⟩
    · split
      · exact ⟨rfl, by simp [hplat], by simpa using hmem, by simpa [useFree] using hmspwe, by simp [useFree, h.free]⟩
      · exact ⟨rfl, hplat, hmem, hmspwe, hfree⟩

theorem writeAnswered_busEq (ans : BusAnswer) (a v : Word) (h : BusEq s t) :
    BusEq (writeAnswered ans a v s) (writeAnswered ans a v t) := by
  obtain ⟨hplat, hmem, hmspwe, hfree⟩ := h
  have hw : writtenMem ans a v t = writtenMem ans a v s := by rw [writtenMem, writtenMem, hmem]
  unfold writeAnswered
  simp only [hw, hmspwe]
  split
  · exact ⟨by simp [hplat], rfl, hmspwe, hfree⟩
  · split
    · exact ⟨by simp [hang, hplat], rfl, hmspwe, hfree⟩
    · split
      · exact ⟨by simp [hplat], by simp, by simpa using hmspwe, by simpa using hfree⟩
      · exact ⟨hplat, rfl, hmspwe, hfree⟩

theorem busWrite_busEq (a v : Word) (h : BusEq s t) : BusEq (busWrite a v s) (busWrite a v t) := by
  have hfin := finishPosted_busEq h
  have hans : busAnswer (finishPosted t) = busAnswer (finishPosted s) := by rw [busAnswer, busAnswer, hfin.plat]
  cases hs : (finishPosted s).plat.stuck
  · rw [busWrite_eq a v hs, busWrite_eq a v (by rw [hfin.plat, hs]), hans]
    exact writeAnswered_busEq _ a v (busReady_busEq h)
  · rw [busWrite_held a v hs, busWrite_held a v (by rw [hfin.plat, hs])]
    exact hfin

theorem checkPage_busEq (k : Stk) (spilled : Bool) (a : Word) (h : BusEq s t) :
    BusEq (checkPage k spilled a s) (checkPage k spilled a t) :=
  ⟨by simpa using h.plat, by simpa using h.mem, by simpa using h.mspwe, by simpa using h.free⟩

theorem refill_ls_busEq (h : BusEq s t) (hls : t.ls = s.ls) :
    BusEq (refill .ls s) (refill .ls t) ∧ (refill .ls t).ls = (refill .ls s).ls := by
  obtain ⟨hval, hread⟩ := busRead_busEq (s.ls.ptr + 4) h
  obtain ⟨hplat, hmem, hmspwe, hfree⟩ := checkPage_busEq .ls false (s.ls.ptr + 4) hread
  simp only [refill, stackOf, setStack, hls, hval]
  exact ⟨⟨hplat, hmem, hmspwe, hfree⟩, rfl⟩

theorem withR0_busEq (h : BusEq s t) (hls : t.ls = s.ls) :
    BusEq (withR0 s) (withR0 t) ∧ (withR0 t).ls = (withR0 s).ls := by
  simp only [withR0, reach, fill, stackOf, hls]
  generalize 0 + 1 - s.ls.cells.length = n
  induction n generalizing s t with
  | zero => exact ⟨h, hls⟩
  | succ n ih =>
    obtain ⟨heq, hls'⟩ := refill_ls_busEq h hls
    exact ih heq hls'

/-- A CPU that waits still waits after it has gone on (R97; log 8). -/
theorem finishPosted_stuck (h : s.plat.stuck = true) : (finishPosted s).plat.stuck = true := by
  cases hp : s.plat.posted with
  | none => rw [finishPosted_none hp, h]
  | some p =>
    rw [finishPosted_some hp]
    split
    · split <;> simp [h]
    · rfl

theorem advance_stuck (h : s.plat.stuck = true) : (advance s).plat.stuck = true := by
  have hfin := finishPosted_stuck h
  unfold advance
  split
  · rw [nextGroup, enterGroup, setFlow_plat, busRead_held _ hfin, hfin]
  · exact h

end

end Sys2Proof.Machine
end

section
/-! Where the model stops because the spec asks a model to (93_implementation_defined.md, treatment "refuse"). -/

namespace Sys2Proof.Machine

/-! A stack that is not allocated yet (10_state.md R29, U3). -/

section
variable {s : State}

theorem exec_shrinksOperands {i : Instr} (hi : shrinksOperands i = true) (ha : s.os.active = false) :
    exec i s = .refused .unallocatedStack := by
  have hpop (u : State) (hu : u.os.active = false) (f : State → Result) :
      andThen (replaceS 1 [] u) f = .refused .unallocatedStack := by
    rw [replaceS_refused u Nat.zero_lt_one hu]
    rfl
  have hshrink (u : State) (hu : u.os.active = false) {k : Nat} {vs : List Word} (hk : vs.length < k) :
      stackResult k vs u = .refused .unallocatedStack := stackResult_refused u hk hu
  cases i <;> cases hi <;> simp only [exec]
  case add | addc | sub | subb | and | or | xor | iand => exact hshrink (setCarry _ s) ha (Nat.lt_succ_self _)
  case adda | replb | replw | popDrop => exact hshrink s ha (Nat.lt_succ_self _)
  case replexp => exact hshrink (setGrs _ s) ha (Nat.lt_succ_self _)
  case shift =>
    unfold execShift
    simp only []
    split
    · exact hshrink (setGrs _ s) ha (Nat.lt_succ_self _)
    · exact hshrink (setCarry _ s) ha (Nat.lt_succ_self _)
  case shiftd =>
    unfold execShiftd
    simp only []
    split
    · exact hshrink (setGrs _ s) ha (Nat.lt_succ_self _)
    · exact hshrink (setCarry _ s) ha (Nat.lt_succ_self _)
  case popG k => exact hshrink (s.setG (s.g.set k (cell 0 s))) ha (Nat.lt_succ_self _)
  case popCt => exact hshrink (s.setCt (cell 0 s)) ha (Nat.lt_succ_self _)
  case popX => exact hshrink (s.setX (cell 0 s)) ha (Nat.lt_succ_self _)
  case popMode => exact hshrink ((noteTrapEnables (noteEnable s)).setMode _) ha (Nat.lt_succ_self _)
  case popLstack => exact hshrink (pushL _ s) ha (Nat.lt_succ_self _)
  case stXInc => exact hpop (s.setX (s.x + 4)) ha _
  case stDecX => exact hpop (s.setX (s.x - 4)) ha _
  case stS0 | stX | stR0 | stR0Inc | stDecR0 | sto | stoI | popR | popLa | lcache | lframe | bzOffset | brIndirect
      | callIndirect | skipn | skipnp | skipz | skipnn | skipp | skipnz => exact hpop s ha _

theorem popL_refused (h : s.ls.active = false) (f : Word → State → Result) :
    popL s f = .refused .unallocatedStack := by simp [popL, h]

theorem popL_next {a : Word} {rest : List Word} (hc : s.ls.cells = a :: rest) (h : s.ls.active = true)
    (f : Word → State → Result) : popL s f = f a (s.locals rest) := by simp [popL, h, topL, hc, State.locals]

theorem exec_shrinksLocals {i : Instr} (hi : shrinksLocals i = true) (ha : s.ls.active = false) :
    exec i s = .refused .unallocatedStack := by
  cases i <;> cases hi <;> simp only [exec]
  case ret | reti | step | pushLstack => exact popL_refused ha _

/-- A cell popped off an allocated operand stack. -/
theorem replaceS_pop {n : Word} {rest : List Word} (hc : s.os.cells = n :: rest) (ha : s.os.active = true) :
    replaceS 1 [] s = .next (s.stack rest) := replaceS_stack (by simp [hc]) (.inr ⟨Nat.zero_lt_one, ha⟩)

/-- `lframe` and `sframe` with a negative count (R364, R365). -/
theorem frames_unallocated {n : Word} {rest : List Word} (hc : s.os.cells = n :: rest) (hlow : -15 ≤ n.toInt)
    (hneg : n.toInt ≤ -1) :
    (s.os.active = true → s.ls.active = false → exec .lframe s = .refused .unallocatedStack) ∧
    (s.os.active = false → exec .sframe s = .refused .unallocatedStack) := by
  have hrange : ¬ (n.toInt < -15 ∨ 15 < n.toInt) := by omega
  have hpos : ¬ 0 < n.toInt := by omega
  have hlt : n.toInt < 0 := by omega
  refine ⟨fun ha hls => ?_, fun ha => ?_⟩
  · have hls' : ¬ (s.stack rest).ls.active = true := by simp [State.stack, hls]
    simp only [exec, execLframe, cell_zero hc, replaceS_pop hc ha, andThen_next]
    rw [if_neg hrange, if_neg hpos, if_pos hlt, if_neg hls']
  · simp only [exec, execSframe, cell_zero hc]
    rw [if_neg hrange, if_neg hpos, if_pos hlt, if_neg (by simp [ha])]

end

/-! A transfer behind a `push.l` of the group it enters (42_control.md R256, U9). -/

section
variable {s t u : State}

theorem hidesLiteral_of_not_literalFree {w a : Word} (h : ¬ LiteralFree w a) : hidesLiteral w a = true := by
  unfold LiteralFree at h
  push Not at h
  obtain ⟨q, hq, hbyte⟩ := h
  have hp : (a.extractLsb' 0 2).toNat < 4 := BitVec.isLt _
  unfold hidesLiteral byteIndex
  interval_cases hn : (a.extractLsb' 0 2).toNat <;> interval_cases q <;> simp [hbyte]

/-- Whether the next fetch traps is said by the platform and by the trap enables (log 16). -/
theorem fetchTraps_of_eq (hf : fetchTraps s = false) (hp : u.plat = s.plat) (hm : u.mode = s.mode)
    (he : u.ctl.enOld = s.ctl.enOld) : fetchTraps u = false := by
  rw [fetchTraps, readFaults, busAnswer_finishPosted, busAnswer, trapEnables] at hf ⊢
  rw [hp, hm, he, hf]

theorem transferTo_refused {a : Word} (ht : t = enterGroup a u) (hlit : ¬ LiteralFree (group t) a)
    (hf : fetchTraps u = false) (hs : t.plat.stuck = false) : transferTo a u = .refused .midGroupAfterLiteral := by
  rw [ht] at hlit hs
  simp [transferTo, hs, hf, hidesLiteral_of_not_literalFree hlit]

/-- The highest-priority interrupt under service is the lowest bit set, which `reti` clears (R238). -/
theorem lowestBit_cleared (b : Byte) : putByteBit b (lowestBit b) false = b &&& (b - 1) := by
  revert b
  decide

theorem nextInstr_eq (s : State) : nextInstr s =
    if s.flow.pc.toNat % 4 = 3 ∨ (s.flow.pc.toNat % 4 = 2 ∧ s.flow.bytelit = true) then s.flow.npc
    else s.flow.pc + 1 := by
  simp only [nextInstr, lastOfGroup_iff]

theorem indirect_refused {a : Word} {rest : List Word} (hlit : ¬ LiteralFree (group t) a) (hf : fetchTraps s = false)
    (hs : t.plat.stuck = false) (hc : s.os.cells = a :: rest) (ha : s.os.active = true) :
    (t = enterGroup a (s.stack rest) → exec .brIndirect s = .refused .midGroupAfterLiteral) ∧
    (t = enterGroup a ((s.stack rest).localsGrown
        ((if s.flow.pc.toNat % 4 = 3 ∨ (s.flow.pc.toNat % 4 = 2 ∧ s.flow.bytelit = true) then s.flow.npc
          else s.flow.pc + 1) :: s.ls.cells)) → exec .callIndirect s = .refused .midGroupAfterLiteral) := by
  refine ⟨fun ht => ?_, fun ht => ?_⟩
  · simp only [exec, execBrIndirect, cell_zero hc, replaceS_pop hc ha, andThen_next]
    exact transferTo_refused ht hlit (fetchTraps_of_eq hf rfl rfl rfl) hs
  · rw [← nextInstr_eq] at ht
    simp only [exec, execCallIndirect, cell_zero hc, replaceS_pop hc ha, andThen_next]
    exact transferTo_refused ht hlit (fetchTraps_of_eq hf rfl rfl rfl) hs

theorem returns_refused {a : Word} {rest : List Word} (hlit : ¬ LiteralFree (group t) a) (hf : fetchTraps s = false)
    (hs : t.plat.stuck = false) (hc : s.ls.cells = a :: rest) (ha : s.ls.active = true) :
    (t = enterGroup a (s.locals rest) → exec .ret s = .refused .midGroupAfterLiteral) ∧
    (t = enterGroup a ((s.locals rest).setRes { s.res with ioius := s.res.ioius &&& (s.res.ioius - 1) }) →
      exec .reti s = .refused .midGroupAfterLiteral) ∧
    (t = enterGroup a ((s.locals rest).setCtl { s.ctl with stepPending := true }) →
      exec .step s = .refused .midGroupAfterLiteral) := by
  refine ⟨fun ht => ?_, fun ht => ?_, fun ht => ?_⟩
  · simp only [exec, execRet, returnFrom, popL_next hc ha]
    exact transferTo_refused ht hlit (fetchTraps_of_eq hf rfl rfl rfl) hs
  · rw [← lowestBit_cleared] at ht
    simp only [exec, execReti, popL_next hc ha]
    exact transferTo_refused ht hlit (fetchTraps_of_eq hf rfl rfl rfl) hs
  · simp only [exec, execStep, popL_next hc ha]
    exact transferTo_refused ht hlit (fetchTraps_of_eq hf rfl rfl rfl) hs

end

/-! A store or a spill to the cell at `npc` (20_memory.md R93, U10). -/

section
variable {s t u : State}

theorem hitsPrefetch_eq {npc a : Word} (h : a.toNat / 4 = npc.toNat / 4) (u : State) :
    hitsPrefetch npc a u = !u.plat.stuck := by
  rw [hitsPrefetch, (Memory.cellAddress_eq_iff a npc).2 h, beq_self_eq_true, Bool.true_and]

theorem storeTo_prefetched {a v : Word} (h : a.toNat / 4 = u.flow.npc.toNat / 4) :
    ((busWrite a v u).plat.stuck = false → storeTo a v u = .refused .storeToPrefetchedCell) ∧
    ((busWrite a v u).plat.stuck = true → storeTo a v u = .next (advance (busWrite a v u))) := by
  refine ⟨fun hs => ?_, fun hs => ?_⟩
  · simp [storeTo, memStore, hitsPrefetch_eq h, hs]
  · simp [storeTo, memStore, hitsPrefetch_eq h, hs]

@[simp] theorem withR0_flow (s : State) : (withR0 s).flow = s.flow := fill_flow .ls s 1

/-- Every store is `storeTo` of its target, in a state that the bus cannot tell from the one that computes the address
(45_load_store.md R340 to R346). -/
theorem exec_store {i : Instr} {a v : Word} (hi : storeTarget i s = some (a, v)) (ha : s.os.active = true) :
    ∃ u, exec i s = storeTo a v u ∧ BusEq (storeState i s) u ∧ u.flow = s.flow := by
  have hpop (w : State) (hw : w.os.active = true) :
      replaceS 1 [] w = .next (w.stack (w.os.cells.drop 1)) := replaceS_stack rfl (.inr ⟨Nat.zero_lt_one, hw⟩)
  obtain ⟨hr0, hls⟩ := withR0_busEq (s := s) (t := s.stack (s.os.cells.drop 1)) ⟨rfl, rfl, rfl, rfl⟩ rfl
  have htop : topL (withR0 (s.stack (s.os.cells.drop 1))) = topL (withR0 s) := by rw [topL, topL, hls]
  cases i <;> simp only [storeTarget, Option.some.injEq, Prod.mk.injEq, reduceCtorEq] at hi
  all_goals obtain ⟨rfl, rfl⟩ := hi
  case stS0 =>
    exact ⟨s.stack (s.os.cells.drop 1), by simp only [exec, execStS0, storeWith, hpop s ha, andThen_next],
      ⟨rfl, rfl, rfl, rfl⟩, rfl⟩
  case stX =>
    exact ⟨s.stack (s.os.cells.drop 1), by simp only [exec, execStX, storeWith, hpop s ha, andThen_next],
      ⟨rfl, rfl, rfl, rfl⟩, rfl⟩
  case stXInc =>
    exact ⟨(s.setX (s.x + 4)).stack (s.os.cells.drop 1),
      by simp only [exec, execStXInc, storeWith, hpop (s.setX (s.x + 4)) ha, andThen_next, setX_os],
      ⟨rfl, rfl, rfl, rfl⟩, rfl⟩
  case stDecX =>
    exact ⟨(s.setX (s.x - 4)).stack (s.os.cells.drop 1),
      by simp only [exec, execStDecX, storeWith, hpop (s.setX (s.x - 4)) ha, andThen_next, setX_os],
      ⟨rfl, rfl, rfl, rfl⟩, rfl⟩
  case stR0 =>
    exact ⟨_, by simp only [exec, execStR0, hpop s ha, andThen_next, htop], hr0, withR0_flow _⟩
  case stR0Inc =>
    exact ⟨setLocalReg 0 (topL (withR0 s) + 4) (withR0 (s.stack (s.os.cells.drop 1))),
      by simp only [exec, execStR0Inc, hpop s ha, andThen_next, htop],
      ⟨hr0.plat, hr0.mem, hr0.mspwe, hr0.free⟩, withR0_flow _⟩
  case stDecR0 =>
    exact ⟨setLocalReg 0 (topL (withR0 s) - 4) (withR0 (s.stack (s.os.cells.drop 1))),
      by simp only [exec, execStDecR0, hpop s ha, andThen_next, htop],
      ⟨hr0.plat, hr0.mem, hr0.mspwe, hr0.free⟩, withR0_flow _⟩

/-- A store to the cell at `npc` is refused, unless the CPU waits for ever in that write or before it (log 8). -/
theorem store_prefetched {i : Instr} {a v : Word} (hi : storeTarget i s = some (a, v))
    (hnpc : a.toNat / 4 = s.flow.npc.toNat / 4) (ha : s.os.active = true) :
    ((busWrite a v (storeState i s)).plat.stuck = false → exec i s = .refused .storeToPrefetchedCell) ∧
    ((busWrite a v (storeState i s)).plat.stuck = true → ∃ t : State, exec i s = .next t ∧ t.plat.stuck = true ∧
      t.mem = (busWrite a v (storeState i s)).mem) := by
  obtain ⟨u, hexec, hbus, hflow⟩ := exec_store hi ha
  obtain ⟨hplat, hmem, -, -⟩ := busWrite_busEq a v hbus
  obtain ⟨hrefused, hwaits⟩ := storeTo_prefetched (a := a) (v := v) (u := u) (by rw [hflow]; exact hnpc)
  refine ⟨fun hs => ?_, fun hs => ⟨advance (busWrite a v u), ?_, ?_, ?_⟩⟩
  · rw [hexec, hrefused (by rw [hplat, hs])]
  · rw [hexec, hwaits (by rw [hplat, hs])]
  · exact advance_stuck (by rw [hplat, hs])
  · rw [advance_mem, hmem]

/-- The first spill writes the cell at `npc`. -/
theorem trim_prefetched {npc : Word} {k : Stk} {m : Nat} (hs : (spillRaw k s).plat.stuck = false)
    (hm : m < (stackOf k s).cells.length) (hnpc : (stackOf k s).ptr.toNat / 4 = npc.toNat / 4) :
    trim npc k m s = .refused .storeToPrefetchedCell := by
  obtain ⟨n, hn⟩ : ∃ n, (stackOf k s).cells.length - m = n + 1 := ⟨(stackOf k s).cells.length - m - 1, by omega⟩
  have hspill : spill npc k s = .refused .storeToPrefetchedCell := by simp [spill, hitsPrefetch_eq hnpc, hs]
  rw [trim, hn, iterO, hspill]
  rfl

theorem settle_prefetched {npc : Word} {k : Stk} (hs : (spillRaw k s).plat.stuck = false)
    (hm : mostCells k < (stackOf k s).cells.length) (hnpc : (stackOf k s).ptr.toNat / 4 = npc.toNat / 4) :
    settle npc k s = .refused .storeToPrefetchedCell := by
  rw [settle, trim_prefetched hs hm hnpc]
  rfl

/-- A stack within its bounds is left as it is. -/
theorem settle_self {npc : Word} {k : Stk} (hmost : (stackOf k s).cells.length ≤ mostCells k)
    (hleast : (stackOf k s).active = true → leastCells k ≤ (stackOf k s).cells.length) : settle npc k s = .next s := by
  have htrim : (stackOf k s).cells.length - mostCells k = 0 := by omega
  have hself := settleRaw_self hmost hleast
  rw [settleRaw, htrim] at hself
  rw [settle, trim, htrim]
  exact congrArg Host.Outcome.next hself

end

/-! Counts and addresses out of range (U6, U15). -/

section
variable {s : State} {n : Word} {rest : List Word}

theorem cacheTo_refused {k : Stk} {c : Int} (h : c < -14 ∨ 14 < c) (u : State) :
    cacheTo k c u = .refused .countOutOfRange := by rw [cacheTo, if_pos h]

theorem caches_refused (hc : s.os.cells = n :: rest) (h : n.toInt < -14 ∨ 14 < n.toInt) :
    exec .scache s = .refused .countOutOfRange ∧
    (s.os.active = true → exec .lcache s = .refused .countOutOfRange) := by
  refine ⟨?_, fun ha => ?_⟩
  · simp only [exec, execScache, cell_zero hc, cacheTo_refused h, andThen_refused]
  · simp only [exec, execLcache, cell_zero hc, replaceS_pop hc ha, andThen_next, cacheTo_refused h, andThen_refused]

theorem frames_refused (hc : s.os.cells = n :: rest) (h : n.toInt < -15 ∨ 15 < n.toInt) :
    exec .sframe s = .refused .countOutOfRange ∧
    (s.os.active = true → exec .lframe s = .refused .countOutOfRange) := by
  refine ⟨?_, fun ha => ?_⟩
  · simp only [exec, execSframe, cell_zero hc, if_pos h]
  · simp only [exec, execLframe, cell_zero hc, replaceS_pop hc ha, andThen_next, if_pos h]

/-- An address that is none of the eight registers'. -/
theorem registers_refused (hc : s.os.cells = n :: rest)
    (h : n ∉ [0x000#32, 0x020#32, 0x040#32, 0x060#32, 0x080#32, 0x120#32, 0x140#32, 0x1A0#32]) :
    exec .ldo s = .refused .badResourceAddress ∧
    (s.os.active = true → exec .sto s = .refused .badResourceAddress) := by
  simp only [List.mem_cons, List.not_mem_nil, or_false, not_or] at h
  obtain ⟨h000, h020, h040, h060, h080, h120, h140, h1A0⟩ := h
  have hnone : byteRegAt n = none := by simp [byteRegAt, h000, h020, h040, h060, h080]
  have hread : resRead n s = none := by simp [resRead, hnone, h120, h140, h1A0]
  have hwrite (v : Word) (u : State) : resWrite n v u = none := by simp [resWrite, hnone, h120, h140, h1A0]
  refine ⟨?_, fun ha => ?_⟩
  · simp only [exec, execLdo, cell_zero hc, hread]
  · simp only [exec, execSto, cell_zero hc, replaceS_pop hc ha, andThen_next, hwrite]

/-- The register of a bit address is told by all of its bits but the low three (R52). -/
theorem bitBase_toNat (b : Word) : (b &&& 0xFFFFFFF8).toNat = 8 * (b.toNat / 8) := by
  have h : b &&& (0xFFFFFFF8 : Word) = (b >>> 3) <<< 3 := by
    ext i hi
    interval_cases i <;> simp
  have := b.isLt
  rw [h, BitVec.toNat_shiftLeft, BitVec.toNat_ushiftRight, Nat.shiftRight_eq_div_pow, Nat.shiftLeft_eq]
  omega

/-- An address that is none of the forty bits'. -/
theorem bits_refused (hc : s.os.cells = n :: rest) (h : n.toNat / 8 ∉ [0, 4, 8, 12, 16]) :
    exec .ldoI s = .refused .badResourceAddress ∧
    (s.os.active = true → exec .stoI s = .refused .badResourceAddress) := by
  simp only [List.mem_cons, List.not_mem_nil, or_false, not_or] at h
  obtain ⟨h0, h4, h8, h12, h16⟩ := h
  have hne (w : Word) (hw : w.toNat / 8 ≠ n.toNat / 8) : ¬ n &&& 0xFFFFFFF8 = w := fun heq => by
    have := bitBase_toNat n
    rw [heq] at this
    omega
  have hnone : bitRegAt n = none := by
    rw [bitRegAt, byteRegAt, if_neg (hne 0x000 fun hw => h0 hw.symm), if_neg (hne 0x020 fun hw => h4 hw.symm),
      if_neg (hne 0x040 fun hw => h8 hw.symm), if_neg (hne 0x060 fun hw => h12 hw.symm),
      if_neg (hne 0x080 fun hw => h16 hw.symm)]
  refine ⟨?_, fun ha => ?_⟩
  · simp only [exec, execLdoI, cell_zero hc, hnone]
  · simp only [exec, execStoI, cell_zero hc, replaceS_pop hc ha, andThen_next, hnone]

end

/-- Settles O51, refusal by refusal. -/
theorem refusedOutsideTheSpec : Obligations.RefusedOutsideTheSpec := by
  refine ⟨fun i s h => ?_, fun s n rest hc hlow hneg => frames_unallocated hc hlow hneg,
    fun s t a rest hlit hf hs => ⟨indirect_refused hlit hf hs, returns_refused hlit hf hs⟩,
    fun i s a v hi hnpc ha => store_prefetched hi hnpc ha,
    fun npc s => ⟨fun k m hs hm hnpc => trim_prefetched hs hm hnpc, fun hs hm hnpc => ?_, fun hs hos hm hnpc => ?_⟩,
    fun s h => ?_, fun s n rest hc => ⟨caches_refused hc, frames_refused hc, registers_refused hc, bits_refused hc⟩⟩
  · rcases h with ⟨hi, ha⟩ | ⟨hi, ha⟩
    · exact exec_shrinksOperands hi ha
    · exact exec_shrinksLocals hi ha
  · rw [normalize, settle_prefetched (k := .os) hs hm hnpc]
    rfl
  · rw [normalize, settle_self (k := .os) hos.2.1 hos.2.2]
    exact settle_prefetched (k := .ls) hs hm hnpc
  · simp only [exec, execPushL, h, if_true]

end Sys2Proof.Machine
end

section
/-! The bytes of a cell, and the byte and the 16-bit word that an address selects (20_memory.md R81, R85, R86). -/

namespace Sys2Proof.Machine.Memory

/-- A cell made of four bytes has them as its bytes, byte 0 the most significant. -/
theorem byteOfCell_append (b0 b1 b2 b3 : Byte) :
    byteOfCell (b0 ++ b1 ++ b2 ++ b3) 0 = b0 ∧ byteOfCell (b0 ++ b1 ++ b2 ++ b3) 1 = b1 ∧
    byteOfCell (b0 ++ b1 ++ b2 ++ b3) 2 = b2 ∧ byteOfCell (b0 ++ b1 ++ b2 ++ b3) 3 = b3 := by
  refine ⟨?_, ?_, ?_, BitVec.extractLsb'_append_eq_right⟩
  · exact (BitVec.extractLsb'_append_eq_of_le (by decide)).trans
      ((BitVec.extractLsb'_append_eq_of_le (by decide)).trans BitVec.extractLsb'_append_eq_left)
  · exact (BitVec.extractLsb'_append_eq_of_le (by decide)).trans
      ((BitVec.extractLsb'_append_eq_of_le (by decide)).trans BitVec.extractLsb'_append_eq_right)
  · exact (BitVec.extractLsb'_append_eq_of_le (by decide)).trans BitVec.extractLsb'_append_eq_right

/-- Byte `k` of the cell that holds `a`. -/
theorem byteOfCell_readCell (m : List Host.Cell) (a : Word) {k : Nat} (hk : k < 4) :
    byteOfCell (readCell m a) k = readByte m (4 * (a.toNat / 4) + k) := by
  let n := 4 * (a.toNat / 4)
  obtain ⟨h0, h1, h2, h3⟩ :=
    byteOfCell_append (readByte m n) (readByte m (n + 1)) (readByte m (n + 2)) (readByte m (n + 3))
  rw [readCell, cellAddress_toNat]
  interval_cases k
  · exact h0
  · exact h1
  · exact h2
  · exact h3

theorem byteAt_readCell (m : List Host.Cell) (a : Word) : byteAt (readCell m a) a = readByte m a.toNat := by
  have hk : (a.extractLsb' 0 2).toNat = a.toNat % 4 := byteIndex_toNat a
  rw [byteAt, hk, byteOfCell_readCell m a (Nat.mod_lt _ (by decide)), Nat.div_add_mod]

/-- The upper half of a cell is bytes 0 and 1, the lower half bytes 2 and 3. -/
theorem wordAt_eq_bytes (c a : Word) : wordAt c a =
    if a.getLsbD 1 then byteOfCell c 2 ++ byteOfCell c 3 else byteOfCell c 0 ++ byteOfCell c 1 := by
  have hpair (k : Nat) : c.extractLsb' (k + 8) 8 ++ c.extractLsb' k 8 = c.extractLsb' k 16 :=
    BitVec.extractLsb'_append_extractLsb'_eq_extractLsb' rfl
  unfold wordAt
  split
  · exact (hpair 0).symm
  · exact (hpair 16).symm

theorem wordAt_readCell (m : List Host.Cell) (a : Word) :
    wordAt (readCell m a) a = readByte m (2 * (a.toNat / 2)) ++ readByte m (2 * (a.toNat / 2) + 1) := by
  have hbit : a.getLsbD 1 = decide (a.toNat / 2 % 2 = 1) := by
    rw [BitVec.getLsbD, Nat.testBit_eq_decide_div_mod_eq, Nat.pow_one]
  rw [wordAt_eq_bytes, hbit]
  by_cases h : a.toNat / 2 % 2 = 1
  · have hbase : 4 * (a.toNat / 4) + 2 = 2 * (a.toNat / 2) := by omega
    simp [h, byteOfCell_readCell, ← hbase]
  · have hbase : 4 * (a.toNat / 4) = 2 * (a.toNat / 2) := by omega
    simp [h, byteOfCell_readCell, hbase]

/-- Two bytes zero-extended, high-order byte first. -/
theorem setWidth_append_bytes (b0 b1 : Byte) :
    (b0 ++ b1 : BitVec 16).setWidth 32 = BitVec.ofNat 32 (256 * b0.toNat + b1.toNat) := by
  rw [← BitVec.ofNat_toNat, BitVec.toNat_append, ← Nat.shiftLeft_add_eq_or_of_lt b1.isLt, Nat.shiftLeft_eq,
    Nat.mul_comm]

end Sys2Proof.Machine.Memory
end

section
/-! Loads and stores in the bytes of memory (45_load_store.md R338 to R346). -/

namespace Sys2Proof.Machine

section
variable {s t : State}

/-- A load that replaces the top cell, on a quiet bus: the read neither faults nor changes the state. -/
theorem loadWith_quiet {a n : Word} {rest : List Word} (f : Word → Word) (hq : s.busQuiet)
    (hc : s.os.cells = n :: rest) :
    loadWith 1 a f s = .next (advance (s.stack (f (Memory.readCell s.mem a) :: rest))) := by
  obtain ⟨hp, hb, hs⟩ := hq
  rw [loadWith, busRead_quiet s a hp hb hs, readFaults_quiet s hp hb]
  exact stackResult_stack (by rw [hc]; rfl) (.inl rfl)

theorem storeTo_eq_next {a v : Word} {u : State} (h : storeTo a v u = .next t) : t = advance (busWrite a v u) := by
  obtain ⟨w, hstore, hadv⟩ := andThen_eq_next.1 h
  obtain ⟨-, rfl⟩ := memStore_eq_next u hstore
  simpa using hadv.symm

/-- A store shrinks the operand stack, so one that goes on found the stack allocated (10_state.md R29). -/
theorem storeTarget_active {i : Instr} {p : Word × Word} (hi : storeTarget i s = some p) (h : exec i s = .next t) :
    s.os.active = true := by
  have hshrinks : shrinksOperands i = true := by
    cases i <;> simp only [storeTarget, reduceCtorEq] at hi <;> rfl
  by_contra ha
  rw [exec_shrinksOperands hshrinks (Bool.eq_false_iff.2 ha)] at h
  cases h

@[simp] theorem withR0_mem (s : State) : (withR0 s).mem = s.mem :=
  iter_induct (P := fun u => u.mem = s.mem) s (fun u h => by rw [refill_mem, h]) _ rfl

@[simp] theorem storeState_mem (i : Instr) (s : State) : (storeState i s).mem = s.mem := by
  unfold storeState
  split
  case h_4 => rfl
  all_goals exact withR0_mem s

/-- The refill that brings `r0` into the cache leaves a quiet bus quiet. -/
theorem storeState_quiet (i : Instr) (hq : s.busQuiet) : (storeState i s).busQuiet := by
  have hplat : (withR0 s).plat = s.plat := (iter_refill .ls _ hq).plat
  unfold storeState
  split
  case h_4 => exact hq
  all_goals rwa [State.busQuiet, hplat]

/-- A store that goes on leaves in memory what its bus write leaves there. -/
theorem store_mem {i : Instr} {a v : Word} (hi : storeTarget i s = some (a, v)) (h : exec i s = .next t) :
    t.mem = (busWrite a v (storeState i s)).mem := by
  obtain ⟨u, hexec, hbus, -⟩ := exec_store hi (storeTarget_active hi h)
  rw [hexec] at h
  rw [storeTo_eq_next h, advance_mem, (busWrite_busEq a v hbus).mem]

end

/-- Settles O30: the quiet load with the byte or the word that the address selects. -/
theorem bytesFromMemory : Obligations.BytesFromMemory := by
  refine ⟨spells_of_decodeOpcode (by decide) (by decide) fun _ => rfl,
    spells_of_decodeOpcode (by decide) (by decide) fun _ => rfl, fun s a rest hq hc => ⟨?_, ?_⟩⟩
  · rw [exec, execLdB, loadWith_quiet _ hq hc, cell_zero hc, Memory.byteAt_readCell, BitVec.ofNat_toNat]
  · rw [exec, execLdW, loadWith_quiet _ hq hc, cell_zero hc, Memory.wordAt_readCell, Memory.setWidth_append_bytes]

/-- Settles O32: the write that the store makes, lost or not, and on a quiet bus done. -/
theorem storeMemory : Obligations.StoreMemory := by
  intro i s t a v hi h
  rw [store_mem hi h]
  refine ⟨fun n hn => ?_, fun hwf hq => ?_⟩
  · rcases busWrite_mem_cases (storeState i s) a v with hmem | hmem
    · rw [hmem, storeState_mem]
    · rw [hmem, storeState_mem, Memory.readByte_writeCell_ne s.mem a v hn]
  · obtain ⟨hmem, -, -⟩ := busWrite_harmless a v (storeState_quiet i hq).harmless
    rw [hmem, storeState_mem, Memory.readCell_writeCell a v hwf]

end Sys2Proof.Machine
end

section
/-! What the encoder's placements do to the bytes and the offset of a group (30_encoding.md R120 to R123). -/

namespace Sys2Proof

section
variable (p q : BitVec 2) (g : Word)

theorem bytePlace_cases : p = 0 ∨ p = 1 ∨ p = 2 ∨ p = 3 := by revert p; decide

/-- Bytes are numbered from the most significant one (R120). -/
theorem getLsbD_groupByte {k : Nat} (hk : k < 8) : (groupByte g p).getLsbD k = g.getLsbD (8 * (3 - p.toNat) + k) := by
  unfold groupByte
  rcases bytePlace_cases p with rfl | rfl | rfl | rfl <;>
    simp only [BitVec.reduceEq, ↓reduceIte, BitVec.getLsbD_extractLsb', hk, decide_true, Bool.true_and] <;> rfl

theorem getLsbD_placeByte (b : Byte) {k : Nat} (hk : k < 32) : (placeByte p b g).getLsbD k =
    if k / 8 = 3 - p.toNat then b.getLsbD (k % 8) else g.getLsbD k := by
  unfold placeByte
  rcases bytePlace_cases p with rfl | rfl | rfl | rfl <;>
    simp only [BitVec.reduceEq, ↓reduceIte, BitVec.getLsbD_append, BitVec.getLsbD_extractLsb', BitVec.reduceToNat] <;>
    grind

theorem groupByte_placeByte (b : Byte) :
    groupByte (placeByte p b g) q = if q = p then b else groupByte g q := by
  have hp := p.isLt
  have hq := q.isLt
  apply BitVec.eq_of_getLsbD_eq
  intro k hk
  rw [getLsbD_groupByte _ _ hk, getLsbD_placeByte _ _ _ (by omega)]
  by_cases h : q = p
  · rw [if_pos h, if_pos (by rw [h]; omega), Nat.mul_add_mod, Nat.mod_eq_of_lt hk]
  · have hne : q.toNat ≠ p.toNat := fun heq => h (BitVec.toNat_inj.1 heq)
    rw [if_neg h, if_neg (by omega), getLsbD_groupByte _ _ hk]

theorem placeByte_groupByte : placeByte p (groupByte g p) g = g := by
  apply BitVec.eq_of_getLsbD_eq
  intro k hk
  rw [getLsbD_placeByte _ _ _ hk, getLsbD_groupByte _ _ (Nat.mod_lt _ (by decide))]
  split
  · congr 1; omega
  · rfl

theorem position_offsetAt : (offsetAt g p).position = p := by
  rcases bytePlace_cases p with rfl | rfl | rfl | rfl <;> rfl

/-- An opcode's five fixed bits and its offset are all of the group from byte `p` on (R122). -/
theorem placeOffset_offsetAt : placeOffset ((groupByte g p).extractLsb' 3 5) (offsetAt g p) g = g := by
  apply BitVec.eq_of_getLsbD_eq
  intro k hk
  unfold placeOffset offsetAt groupByte
  rcases bytePlace_cases p with rfl | rfl | rfl | rfl <;>
    simp only [BitVec.reduceEq, ↓reduceIte, BitVec.getLsbD_append, BitVec.getLsbD_extractLsb'] <;>
    grind

end

end Sys2Proof
end

section
/-! The three shapes of an instruction: OFFSET, `push.b` and the one byte of every other; what the encoder and the
decoder do with each (30_encoding.md R121, R122, R126, R130). -/

namespace Sys2Proof

/-- The five fixed bits of an OFFSET opcode, with its instruction. -/
inductive OffsetOpcode : BitVec 5 → (Offset → Instr) → Prop where
  | br : OffsetOpcode 0 .brOffset
  | call : OffsetOpcode 1 .callOffset
  | bz : OffsetOpcode 2 .bzOffset
  | dbr : OffsetOpcode 3 .dbrOffset

/-- An instruction that is its opcode byte alone: no offset and no literal byte. -/
def Instr.plain : Instr → Bool
  | .brOffset _ | .callOffset _ | .bzOffset _ | .dbrOffset _ | .pushB _ => false
  | _ => true

/-- Every instruction has one of three shapes (R121). -/
inductive Instr.Shape : Instr → Prop where
  | offset {op : BitVec 5} {mk : Offset → Instr} (h : OffsetOpcode op mk) (o : Offset) : Shape (mk o)
  | pushB (n : Byte) : Shape (.pushB n)
  | plain {i : Instr} (h : i.plain = true) : Shape i

theorem Instr.shape (i : Instr) : i.Shape := by
  cases i with
  | brOffset o => exact .offset .br o
  | callOffset o => exact .offset .call o
  | bzOffset o => exact .offset .bz o
  | dbrOffset o => exact .offset .dbr o
  | pushB n => exact .pushB n
  | _ => exact .plain rfl

section
variable {i : Instr} {p : BitVec 2} {g : Word}

theorem Instr.wf_of_fitsAt (h : i.fitsAt p = true) : i.wf = true := (Bool.and_eq_true_iff.1 h).1

section
variable {op : BitVec 5} {mk : Offset → Instr}

theorem fitsAt_offset (h : OffsetOpcode op mk) (o : Offset) : (mk o).fitsAt p = true ↔ o.position = p := by
  cases h <;> exact beq_iff_eq

theorem core_offset (h : OffsetOpcode op mk) (o : Offset) : (mk o).core = mk o := by cases h <;> rfl

theorem encodeAt_offset (h : OffsetOpcode op mk) (o : Offset) : encodeAt (mk o) p g = placeOffset op o g := by
  cases h <;> rfl

theorem decode_offset (h : OffsetOpcode op mk) (htop : (groupByte g p).extractLsb' 3 5 = op) :
    decode g p = .ok (mk (offsetAt g p)) := by
  cases h <;> simp [decode, htop]

end

/-- `push.b` takes its literal from byte 3 of the group, wherever else it stands (R126). -/
theorem decode_pushB (hg : groupByte g p = 0x90) (hp : p ≠ 3) : decode g p = .ok (.pushB (groupByte g 3)) := by
  unfold decode
  simp only [hg]
  rw [if_neg (by decide), if_neg (by decide), if_neg (by decide), if_neg (by decide), if_neg fun h => hp h.2]
  rfl

theorem fitsAt_plain (h : i.plain = true) (hwf : i.wf = true) : i.fitsAt p = true := by
  unfold Instr.fitsAt
  rw [hwf, Bool.true_and]
  split
  case h_6 => rfl
  all_goals cases h

theorem encodeAt_plain (h : i.plain = true) : encodeAt i p g = placeByte p (opcodeByte i) g := by
  unfold encodeAt
  split
  case h_6 => rfl
  all_goals cases h

/-- Only `push.b` reads the literal byte. -/
theorem decodeOpcode_literal {b : Byte} (hb : b ≠ 0x90) (literal : Byte) :
    decodeOpcode b literal = decodeOpcode b 0 := by
  have hlo : (b.extractLsb' 4 4).toNat = 9 → (b.extractLsb' 0 4).toNat ≠ 0 := by revert b; decide
  unfold decodeOpcode
  split
  case h_8 h =>
    obtain ⟨n, hn⟩ := Nat.exists_eq_succ_of_ne_zero (hlo h)
    simp only [opcodeRow9, hn, List.getD_cons_succ]
  all_goals rfl

/-- The opcode byte of a plain instruction is no OFFSET opcode, is not `push.b`, and stands for the instruction or, where
that is another's second name, for its core instruction (R131). -/
theorem decodeOpcode_opcodeByte (h : i.plain = true) (hwf : i.wf = true) :
    4 ≤ ((opcodeByte i).extractLsb' 3 5).toNat ∧ opcodeByte i ≠ 0x90 ∧ decodeOpcode (opcodeByte i) 0 = i.core := by
  cases i with
  | brOffset | callOffset | bzOffset | dbrOffset | pushB => cases h
  | pushN n | unassignedF n => revert n; decide
  | popG r | pushG r | pushR r | popR r => revert r; decide
  | _ => decide

/-- A plain instruction stands at every byte of every group as its opcode byte (R120). -/
theorem spells_opcodeByte (h : i.plain = true) (hwf : i.wf = true) : Machine.Spells (opcodeByte i) i.core := by
  obtain ⟨htop, hb, hcore⟩ := decodeOpcode_opcodeByte h hwf
  exact Machine.spells_of_decodeOpcode htop hb fun literal => (decodeOpcode_literal hb literal).trans hcore

theorem spells_of_core_eq {b : Byte} (h : i.plain = true) (hwf : i.wf = true) (hcore : i.core = i)
    (hbyte : opcodeByte i = b) : Machine.Spells b i := by
  have hspells := spells_opcodeByte h hwf
  rwa [hcore, hbyte] at hspells

/-- Every byte that is no OFFSET opcode and not `push.b` stands for one plain instruction, whose opcode byte it is
(R130). -/
theorem opcodeByte_decodeOpcode (b : Byte) (htop : 4 ≤ (b.extractLsb' 3 5).toNat) (hb : b ≠ 0x90) :
    (decodeOpcode b 0).plain = true ∧ (decodeOpcode b 0).wf = true ∧ (decodeOpcode b 0).core = decodeOpcode b 0 ∧
      opcodeByte (decodeOpcode b 0) = b := by
  revert b
  decide

/-- What the decoder can answer: the OFFSET instruction of the five top bits, `push.b` away from byte 3, or the plain
instruction whose opcode stands there. -/
theorem decode_eq_ok (hd : decode g p = .ok i) :
    (∃ op mk, OffsetOpcode op mk ∧ (groupByte g p).extractLsb' 3 5 = op ∧ i = mk (offsetAt g p)) ∨
    (groupByte g p = 0x90 ∧ p ≠ 3 ∧ i = .pushB (groupByte g 3)) ∨
    (i.plain = true ∧ i.wf = true ∧ i.core = i ∧ opcodeByte i = groupByte g p) := by
  have hoffset {op : BitVec 5} {mk : Offset → Instr} (h : OffsetOpcode op mk)
      (htop : (groupByte g p).extractLsb' 3 5 = op) : i = mk (offsetAt g p) :=
    (Except.ok.inj ((decode_offset h htop).symm.trans hd)).symm
  by_cases h0 : (groupByte g p).extractLsb' 3 5 = 0
  · exact .inl ⟨_, _, .br, h0, hoffset .br h0⟩
  by_cases h1 : (groupByte g p).extractLsb' 3 5 = 1
  · exact .inl ⟨_, _, .call, h1, hoffset .call h1⟩
  by_cases h2 : (groupByte g p).extractLsb' 3 5 = 2
  · exact .inl ⟨_, _, .bz, h2, hoffset .bz h2⟩
  by_cases h3 : (groupByte g p).extractLsb' 3 5 = 3
  · exact .inl ⟨_, _, .dbr, h3, hoffset .dbr h3⟩
  by_cases hb : groupByte g p = 0x90
  · have hp : p ≠ 3 := fun hp => by
      subst hp
      rw [Machine.decode_pushB_last hb rfl] at hd
      cases hd
    exact .inr (.inl ⟨hb, hp, (Except.ok.inj ((decode_pushB hb hp).symm.trans hd)).symm⟩)
  · have htop : 4 ≤ ((groupByte g p).extractLsb' 3 5).toNat := by bv_omega
    obtain rfl : decodeOpcode (groupByte g p) 0 = i :=
      Except.ok.inj ((Machine.spells_of_decodeOpcode htop hb (decodeOpcode_literal hb) g p rfl).symm.trans hd)
    exact .inr (.inr (opcodeByte_decodeOpcode _ htop hb))

end

/-- Settles O1, by the shape of the instruction. -/
theorem decodeEncode : Obligations.DecodeEncode := by
  intro i p g hfit
  cases i.shape with
  | offset h o =>
    obtain rfl := (fitsAt_offset h o).1 hfit
    rw [encodeAt_offset h, decode_offset h (Laws.placeOffset_top _ o g), Laws.offsetAt_placeOffset, core_offset h]
  | pushB n =>
    have hp : p ≠ 3 := bne_iff_ne.1 hfit
    rw [show encodeAt (.pushB n) p g = placeByte 3 n (placeByte p 0x90 g) from rfl, decode_pushB _ hp,
      groupByte_placeByte, if_pos rfl]
    · rfl
    · rw [groupByte_placeByte, if_neg hp, groupByte_placeByte, if_pos rfl]
  | plain h =>
    rw [encodeAt_plain h]
    exact spells_opcodeByte h (Instr.wf_of_fitsAt hfit) _ _ (by rw [groupByte_placeByte, if_pos rfl])

/-- Settles O2, by what the decoder can answer. -/
theorem encodeDecode : Obligations.EncodeDecode := by
  intro g p i hd
  rcases decode_eq_ok hd with ⟨op, mk, h, rfl, rfl⟩ | ⟨hb, hp, rfl⟩ | ⟨h, hwf, hcore, hbyte⟩
  · exact ⟨(fitsAt_offset h _).2 (position_offsetAt p g), core_offset h _,
      (encodeAt_offset h _).trans (placeOffset_offsetAt p g)⟩
  · refine ⟨bne_iff_ne.2 hp, rfl, ?_⟩
    rw [show encodeAt (.pushB (groupByte g 3)) p g = placeByte 3 (groupByte g 3) (placeByte p 0x90 g) from rfl, ← hb,
      placeByte_groupByte, placeByte_groupByte]
  · refine ⟨fitsAt_plain h hwf, hcore, ?_⟩
    rw [encodeAt_plain h, hbyte, placeByte_groupByte]

/-- Settles O3: each word evaluates. -/
theorem decodeSpecWords : Obligations.DecodeSpecWords := by
  unfold Obligations.DecodeSpecWords
  decide

/-- Settles O50: the values decode as every plain opcode does, and `exec` refuses each by its value. -/
theorem unassignedRefused : Obligations.UnassignedRefused := by
  refine ⟨fun i b h => ?_, fun low => ⟨spells_of_core_eq rfl rfl rfl rfl, fun _ => rfl⟩⟩
  simp only [List.mem_cons, Prod.mk.injEq, List.not_mem_nil, or_false] at h
  rcases h with ⟨rfl, rfl⟩ | ⟨rfl, rfl⟩ | ⟨rfl, rfl⟩ | ⟨rfl, rfl⟩ | ⟨rfl, rfl⟩ | ⟨rfl, rfl⟩ | ⟨rfl, rfl⟩ |
    ⟨rfl, rfl⟩ | ⟨rfl, rfl⟩ | ⟨rfl, rfl⟩ | ⟨rfl, rfl⟩ <;>
    exact ⟨spells_of_core_eq rfl rfl rfl rfl, fun _ => rfl⟩

end Sys2Proof
end

section
/-! The value of an offset and the target it makes (30_encoding.md R122, 42_control.md R230). -/

namespace Sys2Proof.Laws
open Machine

theorem offsetCells_eq_ofInt (o : Offset) : offsetCells o = BitVec.ofInt 32 (offsetValue o) := by cases o <;> rfl

/-- Two bits up is four times as much, also past the top of the word. -/
theorem offsetCells_shiftLeft_two (o : Offset) : offsetCells o <<< 2 = BitVec.ofInt 32 (4 * offsetValue o) := by
  rw [BitVec.shiftLeft_eq_mul_twoPow, offsetCells_eq_ofInt, BitVec.ofInt_mul, BitVec.mul_comm]
  rfl

theorem offsetValue_offsetAt (g : Word) (p : BitVec 2) :
    offsetValue (offsetAt g p) = (g.setWidth (27 - 8 * p.toNat)).toInt := by
  rcases bytePlace_cases p with rfl | rfl | rfl | rfl <;>
    exact congrArg BitVec.toInt (BitVec.setWidth_eq_extractLsb' (by decide)).symm

/-- Settles O4: the shifted cells as a number, and the field as a number. -/
theorem branchTarget : Obligations.BranchTarget :=
  ⟨fun o s => congrArg (groupAddress s + ·) (offsetCells_shiftLeft_two o), offsetValue_offsetAt⟩

end Sys2Proof.Laws
end

section
/-! Machine arithmetic as arithmetic on numbers: the words that 40_alu_arith.md R161 to R174 describe by integers. -/

namespace Sys2Proof.Machine

theorem ofInt_sub {w : Nat} (x y : Int) : BitVec.ofInt w (x - y) = BitVec.ofInt w x - BitVec.ofInt w y := by
  rw [Int.sub_eq_add_neg, BitVec.ofInt_add, BitVec.ofInt_neg, BitVec.sub_eq_add_neg]

theorem ofInt_toNat {w : Nat} (v : BitVec w) : BitVec.ofInt w v.toNat = v := by
  rw [BitVec.ofInt_natCast, BitVec.ofNat_toNat, BitVec.setWidth_eq]

/-- The carry that `addc` adds and `subb` takes away, as a number. -/
theorem ofNat_carry (c : Bool) : BitVec.ofNat 32 c.toNat = if c then 1 else 0 := by cases c <;> rfl

theorem ofNat_add_carry (a b : Word) (c : Bool) :
    BitVec.ofNat 32 (a.toNat + b.toNat + c.toNat) = a + b + (if c then 1 else 0) := by
  rw [BitVec.ofNat_add, ← BitVec.add_def, ofNat_carry]

theorem ofInt_sub_toNat (a b : Word) : BitVec.ofInt 32 ((a.toNat : Int) - b.toNat) = a - b := by
  rw [ofInt_sub, ofInt_toNat, ofInt_toNat]

theorem ofInt_sub_borrow (a b : Word) (c : Bool) :
    BitVec.ofInt 32 ((a.toNat : Int) - b.toNat - c.toNat) = a - b - (if c then 1 else 0) := by
  rw [ofInt_sub, ofInt_sub_toNat, BitVec.ofInt_natCast, ofNat_carry]

theorem ofInt_neg_toNat (a : Word) : BitVec.ofInt 32 (-(a.toNat : Int)) = 0 - a := by
  rw [BitVec.ofInt_neg, ofInt_toNat, BitVec.ofNat_eq_ofNat, BitVec.zero_sub]

theorem ofNat_add_literal (a : Word) (n : Nat) : BitVec.ofNat 32 (a.toNat + n) = a + BitVec.ofNat 32 n := by
  rw [BitVec.ofNat_add, BitVec.ofNat_toNat, BitVec.setWidth_eq]

end Sys2Proof.Machine
end

section
/-! Arithmetic, compare and logical instructions (40_alu_arith.md R161 to R181). -/

namespace Sys2Proof.Machine

/-! What the three shapes of a result leave on the operand stack. -/

section
variable {s : State}

theorem stack_of_cells_eq {cells : List Word} (h : s.os.cells = cells) : s.stack cells = s := by
  subst h
  rfl

/-- A result behind a write of carry: the stack is the one that the carry leaves alone (R41). -/
theorem stackResult_setCarry {k : Nat} {vs rest : List Word} (c : Bool) (hrest : s.os.cells.drop k = rest)
    (hk : vs.length = k ∨ (vs.length < k ∧ s.os.active = true)) :
    stackResult k vs (setCarry c s) = .next (advance ((s.stack (vs ++ rest)).withCarry c)) :=
  stackResult_stack (s := setCarry c s) hrest hk

variable {n1 n2 : Word} {rest : List Word}

theorem unaryResult (v : Word) (hc : s.os.cells = n1 :: rest) :
    stackResult 1 [v] s = .next (advance (s.stack (v :: rest))) :=
  stackResult_stack (by rw [hc]; rfl) (.inl rfl)

theorem binaryResult (v : Word) (hc : s.os.cells = n2 :: n1 :: rest) (ha : s.os.active = true) :
    stackResult 2 [v] s = .next (advance (s.stack (v :: rest))) :=
  stackResult_stack (by rw [hc]; rfl) (.inr ⟨Nat.lt_succ_self _, ha⟩)

theorem binaryResult_setCarry (v : Word) (c : Bool) (hc : s.os.cells = n2 :: n1 :: rest) (ha : s.os.active = true) :
    stackResult 2 [v] (setCarry c s) = .next (advance ((s.stack (v :: rest)).withCarry c)) :=
  stackResult_setCarry c (by rw [hc]; rfl) (.inr ⟨Nat.lt_succ_self _, ha⟩)

end

/-! The instructions. -/

/-- Settles O11: each sum as a sum of numbers, with its carry. -/
theorem addition : Obligations.Addition := by
  refine ⟨spells_of_core_eq rfl rfl rfl rfl, spells_of_core_eq rfl rfl rfl rfl, spells_of_core_eq rfl rfl rfl rfl,
    spells_of_core_eq rfl rfl rfl rfl, fun s n1 n2 rest hc ha => ⟨?add, ?addc, ?adda⟩, fun s n1 rest hc => ?addPc⟩
  case add =>
    rw [← BitVec.add_def]
    simp only [exec, execAdd, cell_zero hc, cell_one hc]
    exact binaryResult_setCarry _ _ hc ha
  case addc =>
    rw [ofNat_add_carry]
    simp only [exec, execAddc, cell_zero hc, cell_one hc]
    exact binaryResult_setCarry _ _ hc ha
  case adda =>
    rw [← BitVec.add_def]
    simp only [exec, execAdda, cell_zero hc, cell_one hc]
    exact binaryResult _ hc ha
  case addPc =>
    rw [← BitVec.add_def]
    simp only [exec, execAddPc, cell_zero hc]
    exact stackResult_setCarry _ (by rw [hc]; rfl) (.inl rfl)

/-- Settles O12: each difference as a difference of integers, with its borrow. -/
theorem subtraction : Obligations.Subtraction := by
  refine ⟨spells_of_core_eq rfl rfl rfl rfl, spells_of_core_eq rfl rfl rfl rfl,
    fun s n1 n2 rest hc ha => ⟨?sub, ?subb⟩⟩
  case sub =>
    rw [ofInt_sub_toNat]
    simp only [exec, execSub, cell_zero hc, cell_one hc]
    exact binaryResult_setCarry _ _ hc ha
  case subb =>
    rw [ofInt_sub_borrow]
    simp only [exec, execSubb, cell_zero hc, cell_one hc]
    exact binaryResult_setCarry _ _ hc ha

/-- `mxm` by the outcome of its comparison (R168): the larger value is where it belongs, or the two change places. -/
theorem exec_mxm {s : State} {n1 n2 : Word} {rest : List Word} (hc : s.os.cells = n2 :: n1 :: rest) :
    exec .mxm s = .next (advance
      ((s.stack (if n1.toInt < n2.toInt then n2 :: n1 :: rest else n1 :: n2 :: rest)).withCarry
        (decide (n1.toInt < n2.toInt)))) := by
  simp only [exec, execMxm, signedLess, cell_zero hc, cell_one hc, decide_eq_true_iff]
  by_cases hless : n1.toInt < n2.toInt
  · rw [if_pos hless, if_pos hless, stack_of_cells_eq hc, decide_eq_true hless]
    rfl
  · rw [if_neg hless, if_neg hless, decide_eq_false hless]
    exact stackResult_setCarry _ (by rw [hc]; rfl) (.inl rfl)

/-- Settles O13: `cmp` writes carry alone, `mxm` by its two outcomes. -/
theorem comparison : Obligations.Comparison := by
  refine ⟨spells_of_core_eq rfl rfl rfl rfl, spells_of_core_eq rfl rfl rfl rfl,
    fun s n1 n2 rest hc => ⟨?cmp, exec_mxm hc⟩⟩
  case cmp =>
    simp only [exec, execCmp, signedLess, cell_zero hc, cell_one hc]
    rfl

/-- The instructions that replace s0 by a function of it (R169 to R173, R175). -/
theorem exec_unary {s : State} {n1 : Word} {rest : List Word} (hc : s.os.cells = n1 :: rest) :
    exec .neg s = .next (advance (s.stack ((0 - n1) :: rest))) ∧
    exec .inc1 s = .next (advance (s.stack ((n1 + 1) :: rest))) ∧
    exec .inc4 s = .next (advance (s.stack ((n1 + 4) :: rest))) ∧
    exec .dec1 s = .next (advance (s.stack ((n1 - 1) :: rest))) ∧
    exec .dec4 s = .next (advance (s.stack ((n1 - 4) :: rest))) ∧
    exec .eqz s = .next (advance (s.stack ((if n1 = 0 then Word.allOnes else 0) :: rest))) := by
  simp only [exec, execNeg, execInc1, execInc4, execDec1, execDec4, execEqz, cell_zero hc]
  exact ⟨unaryResult _ hc, unaryResult _ hc, unaryResult _ hc, unaryResult _ hc, unaryResult _ hc, unaryResult _ hc⟩

/-- Settles O14: each result as a number. -/
theorem unaryArithmetic : Obligations.UnaryArithmetic := by
  refine ⟨spells_of_core_eq rfl rfl rfl rfl, spells_of_core_eq rfl rfl rfl rfl, spells_of_core_eq rfl rfl rfl rfl,
    spells_of_core_eq rfl rfl rfl rfl, spells_of_core_eq rfl rfl rfl rfl, spells_of_core_eq rfl rfl rfl rfl,
    spells_of_core_eq rfl rfl rfl rfl, fun s n1 rest hc => ?cells, fun s => ?decCt⟩
  case cells =>
    simp only [ofInt_neg_toNat, ofNat_add_literal, ofInt_sub, ofInt_toNat]
    exact exec_unary hc
  case decCt =>
    rw [ofInt_sub, ofInt_toNat]
    rfl

/-- Settles O15: the four logical operations clear carry behind their result; `notc` and `nop` by definition. -/
theorem logic : Obligations.Logic := by
  refine ⟨spells_of_core_eq rfl rfl rfl rfl, spells_of_core_eq rfl rfl rfl rfl, spells_of_core_eq rfl rfl rfl rfl,
    spells_of_core_eq rfl rfl rfl rfl, spells_of_core_eq rfl rfl rfl rfl, spells_of_core_eq rfl rfl rfl rfl,
    fun s n1 n2 rest hc ha => ?_, fun s => ⟨rfl, rfl⟩⟩
  simp only [exec, execAnd, execOr, execXor, execIand, cell_zero hc, cell_one hc]
  exact ⟨binaryResult_setCarry _ _ hc ha, binaryResult_setCarry _ _ hc ha, binaryResult_setCarry _ _ hc ha,
    binaryResult_setCarry _ _ hc ha⟩

end Sys2Proof.Machine
end

section
/-! Double-cell values as numbers (41_alu_shift_muldiv.md R210 to R213). -/

namespace Sys2Proof.Machine

/-- The cells of a 64-bit two's-complement value, of any integer it is the residue of (R211). -/
theorem cells_ofInt (z : Int) :
    (BitVec.ofInt 64 z).extractLsb' 32 32 = BitVec.ofInt 32 (z / 2 ^ 32) ∧
    (BitVec.ofInt 64 z).extractLsb' 0 32 = BitVec.ofInt 32 z := by
  constructor <;> apply BitVec.eq_of_toNat_eq <;>
    simp only [BitVec.extractLsb'_toNat, BitVec.toNat_ofInt, Nat.shiftRight_eq_div_pow] <;> omega

/-- The cells of a 64-bit unsigned value (R210). -/
theorem cells_ofNat (n : Nat) :
    (BitVec.ofNat 64 n).extractLsb' 32 32 = BitVec.ofNat 32 (n / 2 ^ 32) ∧
    (BitVec.ofNat 64 n).extractLsb' 0 32 = BitVec.ofNat 32 n := by
  simpa only [← BitVec.ofInt_natCast, Int.natCast_ediv, Int.natCast_pow, Int.cast_ofNat_Int] using cells_ofInt n

/-- The double value of two cells, the high one first. -/
theorem toNat_pair (hi lo : Word) : (hi ++ lo : BitVec 64).toNat = hi.toNat * 2 ^ 32 + lo.toNat := by
  rw [BitVec.toNat_append, ← Nat.shiftLeft_add_eq_or_of_lt lo.isLt, Nat.shiftLeft_eq]

/-- What is left of a double value shifted right, in its low cell (R212). -/
theorem pair_ushiftRight_low (hi lo : Word) (k : Nat) :
    ((hi ++ lo : BitVec 64) >>> k).extractLsb' 0 32 = BitVec.ofNat 32 ((hi.toNat * 2 ^ 32 + lo.toNat) / 2 ^ k) := by
  apply BitVec.eq_of_toNat_eq
  rw [BitVec.extractLsb'_toNat, Nat.shiftRight_zero, BitVec.toNat_ushiftRight, toNat_pair, Nat.shiftRight_eq_div_pow,
    BitVec.toNat_ofNat]

/-- The multiplier of `mulfs` bit by bit: bit `j` is bit `k - 1 - j` of n1 (R212). -/
theorem reversedMultiplier_eq {k : Nat} (n1 : Word) (M : BitVec k)
    (hM : ∀ j, j < k → M.getLsbD j = n1.getLsbD (k - 1 - j)) : reversedMultiplier n1 k = M.toInt := by
  refine congrArg BitVec.toInt (BitVec.eq_of_getLsbD_eq fun j hj => ?_)
  have hlast : k - 1 - j < k := by omega
  rw [hM j hj, BitVec.getLsbD_reverse, BitVec.getMsbD_eq_getLsbD, BitVec.getLsbD_setWidth, decide_eq_true hj,
    decide_eq_true hlast, Bool.true_and, Bool.true_and]

end Sys2Proof.Machine
end

section
/-! The multiplies and the divide (41_alu_shift_muldiv.md R210 to R213). -/

namespace Sys2Proof.Machine

section
variable {s : State} {n1 n2 : Word} {rest : List Word}

theorem cellPair_eq (hc : s.os.cells = n2 :: n1 :: rest) : cellPair s = n2 ++ n1 := by
  rw [cellPair, cell_zero hc, cell_one hc]

/-- Two cells replaced by two: the stack neither grows nor shrinks. -/
theorem pairResult (v w : Word) (hc : s.os.cells = n2 :: n1 :: rest) :
    stackResult 2 [v, w] s = .next (advance (s.stack (v :: w :: rest))) :=
  stackResult_stack (by rw [hc]; rfl) (.inl rfl)

/-- `mulfs` with a count that the spec describes (R212). -/
theorem exec_mulfs (hc : s.os.cells = n2 :: n1 :: rest) {k : Nat} (hlow : 1 ≤ k) (hhigh : k ≤ 32)
    (hct : s.ct = BitVec.ofNat 32 k) (M : BitVec k) (hM : ∀ j, j < k → M.getLsbD j = n1.getLsbD (k - 1 - j)) :
    exec .mulfs s = .next (advance ((s.stack
      (BitVec.ofInt 32 (s.g[0].toInt * M.toInt + n2.toNat * 2 ^ k) ::
        BitVec.ofNat 32 ((n2.toNat * 2 ^ 32 + n1.toNat) / 2 ^ k) :: rest)).setCt 0)) := by
  have hk : s.ct.toNat = k := by rw [hct, BitVec.toNat_ofNat, Nat.mod_eq_of_lt (by omega)]
  have haddend : ((n2.toNat <<< k : Nat) : Int) = n2.toNat * 2 ^ k := by
    rw [Nat.shiftLeft_eq, Int.natCast_mul, Int.natCast_pow, Int.cast_ofNat_Int]
  simp only [exec, execMulfs, hk, if_pos (And.intro hlow hhigh), cell_zero hc, cell_one hc, cellPair_eq hc, g0,
    reversedMultiplier_eq n1 M hM, haddend, pair_ushiftRight_low]
  exact pairResult (s := s.setCt 0) _ _ hc

/-- The three cases of `divu`, in the terms of R213: the divisor, the high cell and the double value. -/
theorem execDivu_eq (hc : s.os.cells = n2 :: n1 :: rest) :
    execDivu s = if s.g[0].toNat = 0 then stackResult 2 [n2, n1] s
      else if s.g[0].toNat ≤ n2.toNat then stackResult 2 [freeVal 0 s, freeVal 1 s] (useFree 2 s)
      else stackResult 2 [BitVec.ofNat 32 ((n2.toNat * 2 ^ 32 + n1.toNat) % s.g[0].toNat),
        BitVec.ofNat 32 ((n2.toNat * 2 ^ 32 + n1.toNat) / s.g[0].toNat)] s := by
  simp only [execDivu, cell_zero hc, cell_one hc, cellPair_eq hc, toNat_pair, g0]

end

/-- Settles O18: the two cells of each exact result. -/
theorem multiply : Obligations.Multiply := by
  refine ⟨spells_of_core_eq rfl rfl rfl rfl, spells_of_core_eq rfl rfl rfl rfl, spells_of_core_eq rfl rfl rfl rfl,
    fun s n1 n2 rest hc _ => ⟨?mulu, ?muls, fun k M hlow hhigh hct hM => exec_mulfs hc hlow hhigh hct M hM⟩⟩
  case mulu =>
    obtain ⟨hhigh, hlow⟩ := cells_ofNat (n1.toNat * s.g[0].toNat + n2.toNat)
    rw [← hhigh, ← hlow]
    simp only [exec, execMulu, cell_zero hc, cell_one hc]
    exact pairResult _ _ hc
  case muls =>
    obtain ⟨hhigh, hlow⟩ := cells_ofInt (n1.toInt * s.g[0].toInt + n2.toInt)
    rw [← hhigh, ← hlow]
    simp only [exec, execMuls, cell_zero hc, cell_one hc]
    exact pairResult _ _ hc

/-- Settles O19, by the three cases of the divisor. -/
theorem divide : Obligations.Divide := by
  refine ⟨spells_of_core_eq rfl rfl rfl rfl,
    fun s n1 n2 rest hc _ => ⟨fun hzero => ?zero, fun hfits => ?fits, fun hne hover => ?overflow⟩⟩ <;>
    rw [exec, execDivu_eq hc]
  case zero =>
    rw [if_pos (by rw [hzero]; rfl), pairResult _ _ hc, stack_of_cells_eq hc]
  case fits =>
    rw [if_neg (Nat.ne_zero_of_lt hfits), if_neg (Nat.not_le_of_lt hfits), pairResult _ _ hc]
  case overflow =>
    have hpos : s.g[0].toNat ≠ 0 := fun h => hne (BitVec.eq_of_toNat_eq h)
    rw [if_neg hpos, if_pos hover]
    exact ⟨freeVal 0 s, freeVal 1 s, s.free + 2, pairResult (s := useFree 2 s) _ _ hc⟩

end Sys2Proof.Machine
end

section
/-! Branches, calls, returns, skips and micro-loops (42_control.md R231 to R254). -/

namespace Sys2Proof.Machine

/-! The conditions that the skips and the micro-loops test, as the statements write them. -/

/-- Two's complement: the sign bit says negative, and zero is not negative (42_control.md R239). -/
theorem msb_eq_true_iff_toInt_neg (n : Word) : n.msb = true ↔ n.toInt < 0 := by
  rw [BitVec.msb_eq_toInt, decide_eq_true_iff]

theorem not_msb_eq_true_iff_toInt_nonneg (n : Word) : (!n.msb) = true ↔ 0 ≤ n.toInt := by
  rw [Bool.not_eq_true', ← Bool.not_eq_true, msb_eq_true_iff_toInt_neg, Int.not_lt]

/-! The OFFSET instructions. -/

/-- The five fixed bits of an OFFSET opcode, read off the byte's value (30_encoding.md R121). -/
theorem opcodeTop_eq {b : Byte} {op : BitVec 5} (h : b.toNat / 8 = op.toNat) : b.extractLsb' 3 5 = op := by
  apply BitVec.eq_of_toNat_eq
  have hop := op.isLt
  rw [BitVec.extractLsb'_toNat, Nat.shiftRight_eq_div_pow]
  omega

/-- Where `dbr` goes on, by the count that it leaves (R233). -/
theorem exec_dbrOffset (s : State) (o : Offset) : exec (.dbrOffset o) s =
    .next (enterGroup (if s.ct - 1 ≠ 0 then branchTarget o s else s.flow.npc) (s.setCt (s.ct - 1))) := by
  simp only [exec, execDbrOffset]
  by_cases hct : s.ct - 1 = 0
  · rw [if_pos (c := (s.setCt (s.ct - 1)).ct = 0) hct, if_neg (not_not_intro hct)]
    rfl
  · rw [if_neg (c := (s.setCt (s.ct - 1)).ct = 0) hct, if_pos hct]

/-- Where `bz` goes on, by the cell that it pops (R232). -/
theorem exec_bzOffset {s : State} {n : Word} {rest : List Word} (hc : s.os.cells = n :: rest)
    (ha : s.os.active = true) (o : Offset) : exec (.bzOffset o) s =
    .next (enterGroup (if n = 0 then branchTarget o s else s.flow.npc) (s.stack rest)) := by
  simp only [exec, execBzOffset, replaceS_pop hc ha, andThen_next, cell_zero hc]
  by_cases hn : n = 0
  · rw [if_pos hn, if_pos hn]
  · rw [if_neg hn, if_neg hn]
    rfl

/-- Settles O20: the decoder by the five fixed bits, `br` and `call` by definition. -/
theorem branches : Obligations.Branches :=
  ⟨fun _ _ => ⟨fun h => decode_offset .br (opcodeTop_eq h), fun h => decode_offset .call (opcodeTop_eq h),
      fun h => decode_offset .bz (opcodeTop_eq h), fun h => decode_offset .dbr (opcodeTop_eq h)⟩,
    fun s o => ⟨rfl, exec_dbrOffset s o, rfl⟩, fun _ o _ _ hc ha => exec_bzOffset hc ha o⟩

/-! The register-indirect transfers. -/

theorem hidesLiteral_of_literalFree {w a : Word} (h : LiteralFree w a) : hidesLiteral w a = false := by
  have hbyte (q : Nat) : (decide (q < (byteIndex a).toNat) && groupByte w (BitVec.ofNat 2 q) == 0x4F) = false := by
    by_cases hq : q < (byteIndex a).toNat
    · rw [beq_false_of_ne (h q hq), Bool.and_false]
    · rw [decide_eq_false hq, Bool.false_and]
  exact Bool.or_eq_false_iff.2 ⟨Bool.or_eq_false_iff.2 ⟨hbyte 0, hbyte 1⟩, hbyte 2⟩

section
variable {s t u : State} {a : Word}

/-- A transfer that the spec describes is made (R256, log 16). Whether its fetch traps may be asked of any state with
the platform and the trap enables of the one from which the transfer is made. -/
theorem transferTo_next (ht : t = enterGroup a u)
    (h : LiteralFree (group t) a ∨ fetchTraps s = true ∨ t.plat.stuck = true) (hp : u.plat = s.plat)
    (hm : u.mode = s.mode) (he : u.ctl.enOld = s.ctl.enOld) : transferTo a u = .next t := by
  subst ht
  rcases h with hfree | htraps | hstuck
  · simp [transferTo, hidesLiteral_of_literalFree hfree]
  · have htraps' : fetchTraps u = true := by
      by_contra hne
      have hs := fetchTraps_of_eq (Bool.eq_false_of_not_eq_true hne) hp.symm hm.symm he.symm
      exact Bool.false_ne_true (hs.symm.trans htraps)
    simp [transferTo, htraps']
  · simp [transferTo, hstuck]

end

/-- Settles O21: each instruction pops its target, does its own part, and transfers. -/
theorem indirectTransfers : Obligations.IndirectTransfers := by
  refine ⟨spells_of_core_eq rfl rfl rfl rfl, spells_of_core_eq rfl rfl rfl rfl, spells_of_core_eq rfl rfl rfl rfl,
    spells_of_core_eq rfl rfl rfl rfl, fun s a rest hc ha => ⟨fun t ht h => ?br, fun t ht h => ?call⟩,
    fun s a rest hc ha => ⟨fun t ht h => ?ret, fun t ht h => ?reti⟩⟩
  case br =>
    simp only [exec, execBrIndirect, cell_zero hc, replaceS_pop hc ha, andThen_next]
    exact transferTo_next ht h rfl rfl rfl
  case call =>
    rw [← nextInstr_eq] at ht
    simp only [exec, execCallIndirect, cell_zero hc, replaceS_pop hc ha, andThen_next]
    exact transferTo_next ht h rfl rfl rfl
  case ret =>
    simp only [exec, execRet, returnFrom, popL_next hc ha]
    exact transferTo_next ht h rfl rfl rfl
  case reti =>
    rw [← lowestBit_cleared] at ht
    simp only [exec, execReti, popL_next hc ha]
    exact transferTo_next ht h rfl rfl rfl

/-! The skips. -/

section
variable {s : State} {c : Bool} {P : Prop} [Decidable P]

/-- A skip by the condition that its test decides (R239). -/
theorem skipWhen_eq (h : c = true ↔ P) :
    skipWhen c s = .next (if P then enterGroup s.flow.npc s else advance s) := by
  simp only [skipWhen, nextGroup, h]

/-- A skip that tests a cell pops it, whatever the test says. -/
theorem skipPopWhen_eq {n : Word} {rest : List Word} (hc : s.os.cells = n :: rest) (ha : s.os.active = true)
    (h : c = true ↔ P) :
    skipPopWhen c s = .next (if P then enterGroup s.flow.npc (s.stack rest) else advance (s.stack rest)) := by
  rw [skipPopWhen, replaceS_pop hc ha, andThen_next]
  exact skipWhen_eq h

end

/-- Settles O22: each skip with the condition that its test decides. -/
theorem skips : Obligations.Skips := by
  refine ⟨spells_of_core_eq rfl rfl rfl rfl, spells_of_core_eq rfl rfl rfl rfl, spells_of_core_eq rfl rfl rfl rfl,
    spells_of_core_eq rfl rfl rfl rfl, spells_of_core_eq rfl rfl rfl rfl, spells_of_core_eq rfl rfl rfl rfl,
    spells_of_core_eq rfl rfl rfl rfl, fun s => ⟨rfl, rfl, skipWhen_eq (.of_eq (Bool.not_eq_true' _))⟩,
    fun s n rest hc ha => ⟨fun i hi => ?negative, fun i hi => ?notNegative, ?zero, ?notZero⟩⟩
  case negative =>
    rcases hi with rfl | rfl <;> simp only [exec, execSkipn, execSkipnp, cell_zero hc] <;>
      exact skipPopWhen_eq hc ha (msb_eq_true_iff_toInt_neg n)
  case notNegative =>
    rcases hi with rfl | rfl <;> simp only [exec, execSkipnn, execSkipp, cell_zero hc] <;>
      exact skipPopWhen_eq hc ha (not_msb_eq_true_iff_toInt_nonneg n)
  case zero =>
    simp only [exec, execSkipz, cell_zero hc]
    exact skipPopWhen_eq hc ha beq_iff_eq
  case notZero =>
    simp only [exec, execSkipnz, cell_zero hc]
    exact skipPopWhen_eq hc ha bne_iff_ne

/-! The micro-loops. -/

/-- A micro-loop by the condition that its test decides (R247). -/
theorem mloopWhen_eq {s t : State} (ht : t = s.setCt (s.ct - 1)) {c : Bool} {P : Prop} [Decidable P]
    (h : c = true ↔ P) : mloopWhen c s = .next (if t.ct ≠ 0 ∧ P then t.loopedBack else advance t) := by
  subst ht
  simp only [mloopWhen, h]
  rfl

/-- Settles O23: each micro-loop with the condition that its test decides; `mloop` tests nothing. -/
theorem microLoops : Obligations.MicroLoops := by
  refine ⟨spells_of_core_eq rfl rfl rfl rfl, spells_of_core_eq rfl rfl rfl rfl, spells_of_core_eq rfl rfl rfl rfl,
    spells_of_core_eq rfl rfl rfl rfl, spells_of_core_eq rfl rfl rfl rfl, spells_of_core_eq rfl rfl rfl rfl,
    spells_of_core_eq rfl rfl rfl rfl, fun s t ht => ⟨?always, mloopWhen_eq ht Iff.rfl,
      mloopWhen_eq ht (.of_eq (Bool.not_eq_true' _)),
      fun n rest hc => ⟨fun i hi => ?negative, fun i hi => ?notNegative, ?zero, ?notZero⟩⟩⟩
  case always =>
    have hloop := mloopWhen_eq ht (c := true) (P := True) (iff_true_intro rfl)
    simpa only [exec, execMloop, and_true] using hloop
  case negative =>
    rcases hi with rfl | rfl <;> simp only [exec, execMloopn, execMloopnp, cell_zero hc] <;>
      exact mloopWhen_eq ht (msb_eq_true_iff_toInt_neg n)
  case notNegative =>
    rcases hi with rfl | rfl <;> simp only [exec, execMloopnn, execMloopp, cell_zero hc] <;>
      exact mloopWhen_eq ht (not_msb_eq_true_iff_toInt_nonneg n)
  case zero =>
    simp only [exec, execMloopz, cell_zero hc]
    exact mloopWhen_eq ht beq_iff_eq
  case notZero =>
    simp only [exec, execMloopnz, cell_zero hc]
    exact mloopWhen_eq ht bne_iff_ne

end Sys2Proof.Machine
end

section
/-! Literal instructions (43_literals.md R280 to R282). -/

namespace Sys2Proof.Machine

/-- A pushed value: the stack grows by it, and is allocated (10_state.md R29). -/
theorem pushResult (v : Word) (s : State) :
    stackResult 0 [v] s = .next (advance (s.grown (v :: s.os.cells))) := by
  rw [stackResult_next s (.inl (Nat.zero_le _)), show decide (0 < [v].length) = true from rfl, Bool.or_true]
  rfl

/-- The value of a nibble literal as a number: two's complement, but for 8 (R280). -/
theorem nibbleValue_eq_ofInt (k : BitVec 4) :
    nibbleValue k = BitVec.ofInt 32 (if k.toNat ≤ 8 then k.toNat else (k.toNat : Int) - 16) := by
  revert k
  decide

/-- A `push.l` that has its literal still to take (R282): the read leaves the operand stack and `npc` as they are, so
that what it pushes and where `npc` goes on are told from the state before. -/
theorem exec_pushL {s t : State} {v : Word} (hlit : literalTaken s = false) (hread : busRead s.flow.npc s = (v, t)) :
    exec .pushL s = .next (advance ((t.grown (v :: s.os.cells)).setFlow { s.flow with npc := s.flow.npc + 4 })) := by
  have ht : t = (busRead s.flow.npc s).2 := (congrArg Prod.snd hread).symm
  have hos : t.os = s.os := by rw [ht, busRead_os]
  have hflow : t.flow = s.flow := by rw [ht, busRead_flow]
  simp only [exec, execPushL, hlit, hread, Bool.false_eq_true, if_false, pushResult, setFlow_os, hos, hflow]
  rfl

/-- Settles O24: the values of the nibble and the byte as numbers, and `push.l` by what its read leaves alone. -/
theorem literals : Obligations.Literals := by
  refine ⟨fun k => spells_of_core_eq rfl rfl rfl rfl, fun g p => decode_pushB, spells_of_core_eq rfl rfl rfl rfl,
    fun s => ⟨fun k => ?nibble, fun n => ?byte, fun v t => exec_pushL⟩⟩
  case nibble =>
    rw [← nibbleValue_eq_ofInt]
    exact pushResult _ s
  case byte =>
    rw [BitVec.ofNat_toNat]
    exact pushResult _ (s.setFlow { s.flow with bytelit := true })

end Sys2Proof.Machine
end

section
/-! Data movement (44_data_movement.md R291 to R308). -/

namespace Sys2Proof.Machine

/-! The operand stack as a refill of the local-register stack sees it: not at all (10_state.md R28, R33). -/

section
variable (s : State) (v : Stack)

theorem addPending_setOs (x : Trap) : addPending x (s.setOs v) = (addPending x s).setOs v := by
  unfold addPending
  rw [setOs_ctl]
  split <;> rfl

theorem signal_setOs (x : Trap) : signal x (s.setOs v) = (signal x s).setOs v := by
  cases hx : trapBits x with
  | none => simp only [signal, hx, addPending_setOs]
  | some p =>
    have hen : trapEnables (s.setOs v) = trapEnables s := rfl
    simp only [signal, hx, hen]
    split
    · exact addPending_setOs (s.setMode (putBit s.mode p.1 true)) v x
    · rfl

theorem memFault_setOs (w : Bool) (a d : Word) : memFault w a d (s.setOs v) = (memFault w a d s).setOs v := by
  rw [memFault, memFault, ← signal_setOs]
  rfl

theorem finishPosted_setOs : finishPosted (s.setOs v) = (finishPosted s).setOs v := by
  cases hp : s.plat.posted with
  | none => rw [finishPosted_none hp, finishPosted_none (s := s.setOs v) hp]
  | some p =>
    rw [finishPosted_some hp, finishPosted_some (s := s.setOs v) hp]
    split
    · split
      · exact memFault_setOs (s.setPlat { s.plat with posted := none }) v true p.addr p.data
      · rfl
    · rfl

theorem busReady_setOs : busReady (s.setOs v) = (busReady s).setOs v := by
  rw [busReady, finishPosted_setOs]
  rfl

theorem busRead_setOs (a : Word) : busRead a (s.setOs v) = ((busRead a s).1, (busRead a s).2.setOs v) := by
  unfold busRead
  simp only [finishPosted_setOs, busReady_setOs]
  rw [setOs_plat, show busAnswer ((finishPosted s).setOs v) = busAnswer (finishPosted s) from rfl]
  split
  · rfl
  · split
    · rfl
    · split
      · exact congrArg (Prod.mk _) (memFault_setOs (useFree 2 (busReady s)) v false a _)
      · rfl

theorem checkPage_setOs (k : Stk) (spilled : Bool) (a : Word) :
    checkPage k spilled a (s.setOs v) = (checkPage k spilled a s).setOs v := by
  have hnote : notePage k spilled a (s.setOs v) = (notePage k spilled a s).setOs v := by
    rw [notePage, notePage, show pageCrossed k spilled a (s.setOs v) = pageCrossed k spilled a s from rfl]
    split
    · exact signal_setOs (setBoundary k true s) v _
    · rfl
  rw [checkPage_eq, checkPage_eq, hnote]
  split <;> rfl

theorem refill_ls_setOs : refill .ls (s.setOs v) = (refill .ls s).setOs v := by
  have hls : stackOf .ls (s.setOs v) = stackOf .ls s := rfl
  simp only [refill, hls, busRead_setOs, checkPage_setOs]
  rfl

/-- What commutes with a write of the operand stack does so any number of times. -/
theorem iter_setOs {f : State → State} (hf : ∀ u : State, f (u.setOs v) = (f u).setOs v) (n : Nat) :
    iter n f (s.setOs v) = (iter n f s).setOs v := by
  induction n generalizing s with
  | zero => rfl
  | succ n ih => rw [iter, hf, ih, iter]

theorem fill_ls_setOs (m : Nat) : fill .ls m (s.setOs v) = (fill .ls m s).setOs v :=
  iter_setOs s v (fun u => refill_ls_setOs u v) _

theorem fill_ls_os (m : Nat) : (fill .ls m s).os = s.os :=
  iter_induct (P := fun u => u.os = s.os) s
    (fun u hu => (stackOf_refill_other (k := .ls) (k' := .os) nofun u).trans hu) _ rfl

/-- Popping a cell before or after the refills is the same. -/
theorem fill_ls_stack (m : Nat) (cells : List Word) : fill .ls m (s.stack cells) = (fill .ls m s).stack cells := by
  rw [State.stack, fill_ls_setOs, State.stack, fill_ls_os]

/-- A stack with enough cells on chip is not refilled (10_state.md R33). -/
theorem fill_of_le {k : Stk} {m : Nat} (h : m ≤ (stackOf k s).cells.length) : fill k m s = s := by
  rw [fill, Nat.sub_eq_zero_of_le h]
  rfl

end

section
variable {s : State}

/-! The results of a push and of a pop. -/

/-- A pop drops s0 of a stack that is allocated. -/
theorem popResult {n : Word} {rest : List Word} (hc : s.os.cells = n :: rest) (ha : s.os.active = true) :
    stackResult 1 [] s = .next (advance (s.stack rest)) :=
  stackResult_stack (by rw [hc]; rfl) (.inr ⟨Nat.zero_lt_one, ha⟩)

/-- Whether s2 is allocated is told by the number of cells (log 15). -/
theorem s2Missing_cons {n3 n2 n1 : Word} {rest : List Word} (hc : s.os.cells = n3 :: n2 :: n1 :: rest) :
    s2Missing s = false := by simp [s2Missing, hc]

end

/-! The instructions. -/

/-- Settles O25: each is a push of a value that the state before holds. -/
theorem pushRegisters : Obligations.PushRegisters := by
  refine ⟨fun i => spells_of_core_eq rfl rfl rfl rfl, spells_of_core_eq rfl rfl rfl rfl,
    spells_of_core_eq rfl rfl rfl rfl, spells_of_core_eq rfl rfl rfl rfl, spells_of_core_eq rfl rfl rfl rfl,
    spells_of_core_eq rfl rfl rfl rfl, spells_of_core_eq rfl rfl rfl rfl, spells_of_core_eq rfl rfl rfl rfl,
    spells_of_core_eq rfl rfl rfl rfl, spells_of_core_eq rfl rfl rfl rfl, spells_of_core_eq rfl rfl rfl rfl,
    fun s => ⟨fun i => pushResult _ s, pushResult _ s, pushResult _ s, pushResult _ s, pushResult _ s, pushResult _ s,
      pushResult _ s, pushResult _ s⟩,
    fun s n rest hc i hi => ?s0, fun s n1 n2 rest hc => ?s1, fun s n1 n2 n3 rest hc => ?s2⟩
  case s0 =>
    rcases hi with rfl | rfl <;> simp only [exec, execPushDup, execPushS0, cell_zero hc, pushResult, hc]
  case s1 => simp only [exec, execPushS1, cell_one hc, pushResult, hc]
  case s2 =>
    simp only [exec, execPushS2, cell_two hc, s2Missing_cons hc, Bool.false_eq_true, if_false, pushResult, hc]

/-- Settles O26: the pops by the register written from s0 behind them, `xcg` and `rev` by the order of their cells. -/
theorem popRegisters : Obligations.PopRegisters := by
  refine ⟨fun i => spells_of_core_eq rfl rfl rfl rfl, spells_of_core_eq rfl rfl rfl rfl,
    spells_of_core_eq rfl rfl rfl rfl, spells_of_core_eq rfl rfl rfl rfl, spells_of_core_eq rfl rfl rfl rfl,
    spells_of_core_eq rfl rfl rfl rfl, fun s n rest hc ha => ⟨fun i => ?global, ?ct, ?x, popResult hc ha⟩,
    fun s n1 n2 rest hc => ?xcg, fun s n1 n2 n3 rest hc => ?rev⟩
  case global =>
    simp only [exec, execPopG, cell_zero hc]
    exact popResult (s := s.setG (s.g.set i n)) hc ha
  case ct =>
    simp only [exec, execPopCt, cell_zero hc]
    exact popResult (s := s.setCt n) hc ha
  case x =>
    simp only [exec, execPopX, cell_zero hc]
    exact popResult (s := s.setX n) hc ha
  case xcg =>
    simp only [exec, execXcg, cell_zero hc, cell_one hc]
    exact stackResult_stack (by rw [hc]; rfl) (.inl rfl)
  case rev =>
    simp only [exec, execRev, s2Missing_cons hc, Bool.false_eq_true, if_false, cell_zero hc, cell_one hc, cell_two hc]
    exact stackResult_stack (by rw [hc]; rfl) (.inl rfl)

/-- After the refills `r<i>` is in the cache (R293). -/
theorem lt_length_fill_ls (s : State) (i : Nat) : i < (fill .ls (i + 1) s).ls.cells.length := by
  have hlen : (fill .ls (i + 1) s).ls.cells.length = max s.ls.cells.length (i + 1) := length_fill .ls (i + 1) s
  omega

/-- Settles O28: the refills leave the operand stack alone, so that the pop of `pop ri`, which the model makes before
them, may be told behind them. -/
theorem localRegisters : Obligations.LocalRegisters := by
  refine ⟨fun i hi => ⟨spells_of_core_eq rfl (decide_eq_true hi) rfl rfl,
      spells_of_core_eq rfl (decide_eq_true hi) rfl rfl⟩,
    spells_of_core_eq rfl rfl rfl rfl, spells_of_core_eq rfl rfl rfl rfl, fun s i hi => fill_of_le s hi,
    fun s t i ht => ?pushR, fun s t i n rest hc ha ht => ?popR, fun s n rest hc ha => ?pushLstack,
    fun s n rest hc ha => ?popLstack⟩
  case pushR =>
    subst ht
    refine ⟨lt_length_fill_ls s i, ?_⟩
    simp only [exec, execPushR, reach, localReg, pushResult, fill_ls_os]
  case popR =>
    subst ht
    simp only [exec, execPopR, reach, cell_zero hc, replaceS_pop hc ha, andThen_next, fill_ls_stack]
    rfl
  case pushLstack =>
    simp only [exec, execPushLstack, popL_next hc ha, pushResult]
    rfl
  case popLstack =>
    simp only [exec, execPopLstack, cell_zero hc]
    exact popResult (s := pushL n s) hc ha

end Sys2Proof.Machine
end

section
/-! Signalling an exception (60_exceptions.md R450, R451, 44_data_movement.md R300). -/

namespace Sys2Proof.Machine

/-- The table of the statements is the model's (R450). -/
theorem trapBits_of_mem_trapTable {x : Trap} {sig en : Nat} (h : (x, sig, en) ∈ trapTable) :
    trapBits x = some (sig, en) := by
  have hall : ∀ e ∈ trapTable, trapBits e.1 = some e.2 := by decide
  exact hall _ h

/-- Settles O53: the bits of `mode` by `signal_mode`, the pending traps by `mem_signal_pending`. -/
theorem signalling : Obligations.Signalling := by
  refine ⟨fun s => ⟨fun h => by rw [trapEnables, h]; rfl, fun m h => by rw [trapEnables, h]; rfl, rfl⟩,
    fun s x sig en hmem => ?_⟩
  have hx := trapBits_of_mem_trapTable hmem
  refine ⟨fun k => ?bits, mem_signal_pending s hx, ?frame⟩
  case bits =>
    rw [signal_mode s hx, getLsbD_putBit _ (trapBits_lt hx).1]
    by_cases hk : k = sig <;> simp [hk]
  case frame =>
    exact ⟨signal_flow s x, signal_os s x, signal_ls s x, signal_g s x, signal_x s x, signal_ct s x, signal_res s x,
      signal_mem s x, signal_plat s x⟩

end Sys2Proof.Machine
end

section
/-! What a transfer does not look at: the operand stack, the local-register stack and `x` (20_memory.md R84, R87). So an
instruction may move them before its transfer or after it. -/

namespace Sys2Proof.Machine

/-- The state with the two registers that hold load and store addresses, the local-register stack and `x`, moved by a
function each (45_load_store.md R330). -/
def State.onAddresses (fl : Stack → Stack) (fx : Word → Word) (s : State) : State :=
  (s.setLs (fl s.ls)).setX (fx s.x)

section
variable (fl : Stack → Stack) (fx : Word → Word) (s : State)

theorem addPending_onAddresses (y : Trap) :
    addPending y (s.onAddresses fl fx) = (addPending y s).onAddresses fl fx := by
  rw [addPending, show (s.onAddresses fl fx).ctl = s.ctl from rfl]
  unfold addPending
  split <;> rfl

theorem signal_onAddresses (y : Trap) : signal y (s.onAddresses fl fx) = (signal y s).onAddresses fl fx := by
  cases hy : trapBits y with
  | none => simp only [signal, hy, addPending_onAddresses]
  | some p =>
    have hen : trapEnables (s.onAddresses fl fx) = trapEnables s := rfl
    simp only [signal, hy, hen]
    split
    · exact addPending_onAddresses fl fx (s.setMode (putBit s.mode p.1 true)) y
    · rfl

theorem memFault_onAddresses (w : Bool) (a d : Word) :
    memFault w a d (s.onAddresses fl fx) = (memFault w a d s).onAddresses fl fx := by
  rw [memFault, memFault, ← signal_onAddresses]
  rfl

theorem finishPosted_onAddresses : finishPosted (s.onAddresses fl fx) = (finishPosted s).onAddresses fl fx := by
  cases hp : s.plat.posted with
  | none => rw [finishPosted_none hp, finishPosted_none (s := s.onAddresses fl fx) hp]
  | some p =>
    rw [finishPosted_some hp, finishPosted_some (s := s.onAddresses fl fx) hp]
    split
    · split
      · exact memFault_onAddresses fl fx (s.setPlat { s.plat with posted := none }) true p.addr p.data
      · rfl
    · rfl

theorem busRead_onAddresses (a : Word) :
    busRead a (s.onAddresses fl fx) = ((busRead a s).1, (busRead a s).2.onAddresses fl fx) := by
  have hready : busReady (s.onAddresses fl fx) = (busReady s).onAddresses fl fx := by
    rw [busReady, finishPosted_onAddresses]
    rfl
  unfold busRead
  simp only [finishPosted_onAddresses, hready]
  rw [show ((finishPosted s).onAddresses fl fx).plat = (finishPosted s).plat from rfl,
    show busAnswer ((finishPosted s).onAddresses fl fx) = busAnswer (finishPosted s) from rfl]
  split
  · rfl
  · split
    · rfl
    · split
      · exact congrArg (Prod.mk _) (memFault_onAddresses fl fx (useFree 2 (busReady s)) false a _)
      · rfl

end

section
variable {s t : State} {a v : Word}

theorem busRead_setX (h : busRead a s = (v, t)) (y : Word) : busRead a (s.setX y) = (v, t.setX y) := by
  have hmoved := busRead_onAddresses id (fun _ => y) s a
  rw [h] at hmoved
  exact hmoved

theorem busRead_locals (h : busRead a s = (v, t)) (cells : List Word) :
    busRead a (s.locals cells) = (v, t.locals cells) := by
  have hmoved := busRead_onAddresses (fun l => { l with cells := cells }) id s a
  rw [h] at hmoved
  exact hmoved

end

theorem writeAnswered_setOs (ans : BusAnswer) (a v : Word) (s : State) (st : Stack) :
    writeAnswered ans a v (s.setOs st) = (writeAnswered ans a v s).setOs st := by
  have hstored : (s.setOs st).setMem (writtenMem ans a v (s.setOs st)) =
      (s.setMem (writtenMem ans a v s)).setOs st := rfl
  unfold writeAnswered
  rw [hstored, setOs_res, setOs_plat]
  simp only []
  split
  · rfl
  · split
    · rfl
    · split
      · exact memFault_setOs (s.setMem (writtenMem ans a v s)) st true a v
      · rfl

theorem busWrite_setOs (a v : Word) (s : State) (st : Stack) :
    busWrite a v (s.setOs st) = (busWrite a v s).setOs st := by
  have hplat : (finishPosted (s.setOs st)).plat = (finishPosted s).plat := by rw [finishPosted_setOs, setOs_plat]
  cases hs : (finishPosted s).plat.stuck
  · rw [busWrite_eq a v hs, busWrite_eq a v (by rw [hplat, hs]), busReady_setOs, busAnswer, busAnswer, hplat,
      writeAnswered_setOs]
  · rw [busWrite_held a v hs, busWrite_held a v (by rw [hplat, hs]), finishPosted_setOs]

/-- Popping a cell before or after a write is the same. -/
theorem busWrite_stack (a v : Word) (s : State) (cells : List Word) :
    busWrite a v (s.stack cells) = (busWrite a v s).stack cells := by
  rw [State.stack, busWrite_setOs, State.stack, busWrite_os]

end Sys2Proof.Machine
end

section
/-! Loads and stores for every answer of the bus (45_load_store.md R330 to R346). -/

namespace Sys2Proof.Machine

/-! Loads. -/

section
variable {s t : State} {a b r0 v : Word} {rest : List Word}

/-- A load that replaces its address: a faulted read pushes the undefined value as it comes (U8, log 7). -/
theorem loadWith_replace (f : Word → Word) (hc : s.os.cells = a :: rest) (h : busRead b s = (v, t)) :
    loadWith 1 b f s = .next (advance (t.stack ((if readFaults s then v else f v) :: rest))) := by
  have hos : t.os = s.os := by rw [← busRead_os s b, h]
  simp only [loadWith, h]
  exact stackResult_stack (by rw [hos, hc]; rfl) (.inl rfl)

/-- A load of a whole cell from the address in a register. -/
theorem loadWith_push (h : busRead b s = (v, t)) :
    loadWith 0 b id s = .next (advance (t.grown (v :: s.os.cells))) := by
  have hos : t.os = s.os := by rw [← busRead_os s b, h]
  simp only [loadWith, h, id, ite_self, pushResult, hos]

/-- A load from an address in `x` that moves `x`. -/
theorem loadWith_setX (y : Word) (h : busRead b s = (v, t)) :
    loadWith 0 b id (s.setX y) = .next (advance ((t.grown (v :: s.os.cells)).setX y)) :=
  loadWith_push (busRead_setX h y)

/-- `r0` is in the cache where the local-register stack has a cell on chip (10_state.md R33). -/
theorem withR0_of_cells (hl : s.ls.cells = r0 :: rest) : withR0 s = s :=
  fill_of_le s (k := .ls) (by simp [stackOf, hl])

theorem topL_of_cells (hl : s.ls.cells = r0 :: rest) : topL s = r0 := by simp [topL, hl]

theorem setLocalReg_zero (y : Word) (hl : s.ls.cells = r0 :: rest) : setLocalReg 0 y s = s.locals (y :: rest) := by
  simp [setLocalReg, State.locals, hl]

/-- A load from an address in `r0` that moves `r0`. -/
theorem loadWith_locals (cells : List Word) (h : busRead b s = (v, t)) :
    loadWith 0 b id (s.locals cells) = .next (advance ((t.grown (v :: s.os.cells)).locals cells)) :=
  loadWith_push (busRead_locals h cells)

/-- The byte that an address selects, as a number (20_memory.md R85). -/
theorem byteAt_setWidth (c a : Word) : (Memory.byteAt c a).setWidth 32 =
    BitVec.ofNat 32 (c.toNat / 2 ^ (24 - 8 * (a.toNat % 4)) % 256) := by
  have hk : (a.extractLsb' 0 2).toNat = a.toNat % 4 := byteIndex_toNat a
  rw [← BitVec.ofNat_toNat, Memory.byteAt, hk, Memory.byteOfCell, BitVec.extractLsb'_toNat, Nat.shiftRight_eq_div_pow]

end

/-- Settles O29: the moves of `x` and r0, which the model makes before the read, are told behind it. -/
theorem loads : Obligations.Loads := by
  refine ⟨spells_of_core_eq rfl rfl rfl rfl, spells_of_core_eq rfl rfl rfl rfl, spells_of_core_eq rfl rfl rfl rfl,
    spells_of_core_eq rfl rfl rfl rfl, spells_of_core_eq rfl rfl rfl rfl, spells_of_core_eq rfl rfl rfl rfl,
    spells_of_core_eq rfl rfl rfl rfl, spells_of_core_eq rfl rfl rfl rfl,
    fun s t a v rest hc h => ⟨?cell, fun hf => ?byte⟩,
    fun s t v => ⟨loadWith_push, loadWith_setX (s.x + 4), loadWith_setX (s.x - 4)⟩,
    fun s t r0 v rest hl => ⟨fun h => ?r0, fun h => ?r0Inc, fun h => ?decR0⟩⟩
  case cell => rw [exec, execLdS0, cell_zero hc, loadWith_replace id hc h, id, ite_self]
  case byte =>
    rw [exec, execLdB, cell_zero hc, loadWith_replace _ hc h, hf, if_neg Bool.false_ne_true, byteAt_setWidth]
  case r0 =>
    simp only [exec, execLdR0, withR0_of_cells hl, topL_of_cells hl]
    exact loadWith_push h
  case r0Inc =>
    simp only [exec, execLdR0Inc, withR0_of_cells hl, topL_of_cells hl, setLocalReg_zero _ hl]
    exact loadWith_locals _ h
  case decR0 =>
    simp only [exec, execLdDecR0, withR0_of_cells hl, topL_of_cells hl, setLocalReg_zero _ hl]
    exact loadWith_locals _ h

/-! Stores. -/

section
variable {s : State} {a v n : Word} {rest : List Word}

/-- A store away from the cell at `npc` completes, whatever the bus answers (20_memory.md R93; D26). -/
theorem storeTo_next (h : a.toNat / 4 ≠ s.flow.npc.toNat / 4) : storeTo a v s = .next (advance (busWrite a v s)) := by
  have hcell : (Memory.cellAddress a == Memory.cellAddress s.flow.npc) = false :=
    beq_eq_false_iff_ne.2 fun heq => h ((Memory.cellAddress_eq_iff a _).1 heq)
  simp [storeTo, memStore, hitsPrefetch, hcell]

/-- The pop of the stored cell, which the model makes before the write, told behind it. -/
theorem storeTo_stack (cells : List Word) (h : a.toNat / 4 ≠ s.flow.npc.toNat / 4) :
    storeTo a v (s.stack cells) = .next (advance ((busWrite a v s).stack cells)) := by
  rw [← busWrite_stack]
  exact storeTo_next (s := s.stack cells) h

theorem storeWith_next (hc : s.os.cells = n :: rest) (ha : s.os.active = true)
    (h : a.toNat / 4 ≠ s.flow.npc.toNat / 4) : storeWith a v s = .next (advance ((busWrite a v s).stack rest)) := by
  rw [storeWith, replaceS_pop hc ha, andThen_next, storeTo_stack rest h]

/-- The stores through `r0`, with the address that each takes from it (R340, R342, R343). -/
theorem exec_storeR0 {r0 : Word} {locals : List Word} (hc : s.os.cells = n :: rest) (ha : s.os.active = true)
    (hl : s.ls.cells = r0 :: locals) :
    exec .stR0 s = storeTo r0 n (s.stack rest) ∧
    exec .stR0Inc s = storeTo r0 n ((s.locals ((r0 + 4) :: locals)).stack rest) ∧
    exec .stDecR0 s = storeTo (r0 - 4) n ((s.locals ((r0 - 4) :: locals)).stack rest) := by
  have hl' : (s.stack rest).ls.cells = r0 :: locals := hl
  refine ⟨?_, ?_, ?_⟩ <;>
    simp only [exec, execStR0, execStR0Inc, execStDecR0, replaceS_pop hc ha, andThen_next, withR0_of_cells hl',
      topL_of_cells hl', cell_zero hc, setLocalReg_zero _ hl'] <;>
    rfl

end

/-- Settles O31: each store is a pop and a write, and away from the cell at `npc` the write completes. -/
theorem stores : Obligations.Stores := by
  refine ⟨spells_of_core_eq rfl rfl rfl rfl, spells_of_core_eq rfl rfl rfl rfl, spells_of_core_eq rfl rfl rfl rfl,
    spells_of_core_eq rfl rfl rfl rfl, spells_of_core_eq rfl rfl rfl rfl, spells_of_core_eq rfl rfl rfl rfl,
    spells_of_core_eq rfl rfl rfl rfl, fun s n rest hc ha => ⟨?s0, fun h => ⟨?x, ?xInc⟩, fun h => ?decX, ?r0⟩⟩
  case s0 =>
    rintro v below rfl h
    rw [exec, execStS0, cell_zero hc, cell_one hc, storeWith_next hc ha h]
  case x => rw [exec, execStX, cell_zero hc, storeWith_next hc ha h]
  case xInc =>
    rw [exec, execStXInc, cell_zero hc]
    exact storeWith_next (s := s.setX (s.x + 4)) hc ha h
  case decX =>
    rw [exec, execStDecX, cell_zero hc]
    exact storeWith_next (s := s.setX (s.x - 4)) hc ha h
  case r0 =>
    intro r0 locals hl
    obtain ⟨hr0, hinc, hdec⟩ := exec_storeR0 hc ha hl
    rw [hr0, hinc, hdec]
    exact ⟨fun h => ⟨storeTo_stack rest h, storeTo_stack (s := s.locals ((r0 + 4) :: locals)) rest h⟩,
      fun h => storeTo_stack (s := s.locals ((r0 - 4) :: locals)) rest h⟩

end Sys2Proof.Machine
end

section
/-! Instructions whose results the spec leaves open (93_implementation_defined.md, U3, U4, U8, U12; logs 7, 10, 15,
19): the free values that the model takes, and the state they leave. -/

namespace Sys2Proof.Machine

section
variable {s t : State} {a v n1 n2 : Word} {rest : List Word}

/-- `mulfs` with a count that the spec does not describe (R212, U12). -/
theorem exec_mulfs_open (hc : s.os.cells = n2 :: n1 :: rest) (hct : s.ct = 0 ∨ 32 < s.ct.toNat) :
    exec .mulfs s = .next (advance ((((s.stack (freeVal 0 s :: freeVal 1 s :: rest)).setCt (freeVal 2 s)).withGrs
      (grsOf (freeVal 3 s))).setFree (s.free + 4))) := by
  have hout : ¬ (1 ≤ s.ct.toNat ∧ s.ct.toNat ≤ 32) := by
    rcases hct with h | h
    · simp [h]
    · omega
  simp only [exec, execMulfs, if_neg hout]
  exact pairResult (s := useFree 4 (setGrs (grsOf (freeVal 3 s)) (s.setCt (freeVal 2 s)))) _ _ hc

/-- The cell of a significand operand that holds the hidden bit is s0, in both precisions (R400). -/
theorem sigTop_sigOperand (hc : s.os.cells = n2 :: n1 :: rest) : sigTop s.double (sigOperand s) = n2 := by
  cases hd : s.double
  · rw [sigOperand_single hc hd]
    exact extractLsb_setWidth_shift n2 0
  · rw [sigOperand_double hc hd]
    exact BitVec.extractLsb'_append_eq_left

/-- `norml` would not end on a significand that is zero from the hidden bit down, GRS extension included (U12). -/
theorem nothingToNormalize_of_zero (hc : s.os.cells = n2 :: n1 :: rest) (hg : grsOf s.mode = ⟨false, false, false⟩)
    (hzero : if s.double then n2 &&& 0x001FFFFF = 0 ∧ n1 = 0 else n2 &&& 0x00FFFFFF = 0) :
    nothingToNormalize s.double (sigOperand s) (grsOf s.mode) = true := by
  have htop := sigTop_sigOperand hc
  have hlow : s.double = true → (sigOperand s).extractLsb' 0 32 = n1 := fun hd => by
    rw [sigOperand_double hc hd]
    exact BitVec.extractLsb'_append_eq_right
  rw [nothingToNormalize, htop, hg]
  cases hd : s.double
  · rw [hd, if_neg Bool.false_ne_true] at hzero
    rw [show hiddenBit false ||| sigMask false = 0x00FFFFFF by decide, hzero]
    rfl
  · rw [hd, if_pos rfl] at hzero
    obtain ⟨hhigh, hrest⟩ := hzero
    rw [show hiddenBit true ||| sigMask true = 0x001FFFFF by decide, hhigh, hlow hd, hrest]
    rfl

/-- The state that such a `norml` leaves but for the significand: it signals by its free values (log 19). -/
def openNormalized (s : State) : State :=
  signalWhen (decide (eighths (grsOf (freeVal 3 s)) ≠ 0)) .fpNrm (signalWhen ((freeVal 3 s).getLsbD 0) .fpUnf
    ((s.withGrs (grsOf (freeVal 3 s))).setCt (freeVal 2 s)))

theorem openNormalized_frame (s : State) : (openNormalized s).double = s.double ∧ (openNormalized s).os = s.os ∧
    (openNormalized s).free = s.free := by
  refine ⟨?_, ?_, ?_⟩
  · rw [openNormalized, signalWhen_double, signalWhen_double]
    exact setGrs_double _ s
  · rw [openNormalized, signalWhen_os, signalWhen_os]
    rfl
  · rw [openNormalized, signalWhen_free, signalWhen_free]
    rfl

theorem exec_norml_open (h : nothingToNormalize s.double (sigOperand s) (grsOf s.mode) = true) :
    exec .norml s = sigResult (freeVal 0 s ++ freeVal 1 s) (useFree 4 (openNormalized s)) := by
  rw [exec, execNorml, if_pos h, openNormalized, ← grsAny_eq]
  rfl

/-- The significand written back: one cell or two, by the precision, with nothing said of them. -/
theorem sigResult_open (w : BitVec 64) (hc : s.os.cells = n2 :: n1 :: rest) : ∃ cells : List Word,
    cells.length = (if s.double then 2 else 1) ∧
    sigResult w s = .next (advance (s.stack (cells ++ (if s.double then rest else n1 :: rest)))) := by
  rw [sigResult]
  cases s.double
  · exact ⟨[w.extractLsb' 0 32], rfl, unaryResult _ hc⟩
  · exact ⟨[w.extractLsb' 32 32, w.extractLsb' 0 32], rfl, pairResult _ _ hc⟩

/-- Without an allocated s2 the model takes a free value in its place (log 15). -/
theorem s2_missing (hc : s.os.cells = [n2, n1]) : cell 2 s = freeVal 0 s ∧ s2Missing s = true := by
  simp [cell, s2Missing, hc]

theorem exec_pushS2_open (hc : s.os.cells = [n2, n1]) :
    exec .pushS2 s = .next (advance ((s.grown [freeVal 0 s, n2, n1]).setFree (s.free + 1))) := by
  obtain ⟨hcell, hmiss⟩ := s2_missing hc
  simp only [exec, execPushS2, hcell, hmiss, if_true, pushResult, useFree_os, hc]
  rfl

theorem exec_rev_open (hc : s.os.cells = [n2, n1]) :
    exec .rev s = .next (advance ((s.stack [freeVal 0 s, n2]).setFree (s.free + 1))) := by
  obtain ⟨hcell, hmiss⟩ := s2_missing hc
  simp only [exec, execRev, hcell, hmiss, if_true, cell_zero hc]
  exact pairResult (s := useFree 1 s) _ _ hc

theorem exec_popSa_open (hc : s.os.cells = [n2, n1]) : exec .popSa s = .next (advance (((s.setOs
    { cells := [n1, freeVal 0 s], ptr := n2 &&& 0xFFFFFFFC, active := true }).setMode
      (s.mode &&& 0xFFEFFFFF)).setFree (s.free + 1))) := by
  obtain ⟨hcell, hmiss⟩ := s2_missing hc
  rw [s2Missing] at hmiss
  simp only [exec, execPopSa, hcell, hmiss, if_true, cell_zero hc, cell_one hc]
  rfl

/-- A fault register that holds nothing reads as a free value (R58, U4). -/
theorem resRead_open (hl : s.res.mfltLatched = false) (ha : a = 0x120 ∨ a = 0x140) :
    resRead a s = some (freeVal 0 s, useFree 1 s) := by
  rcases ha with rfl | rfl
  · rw [resRead, show byteRegAt 0x120 = none by decide]
    simp [hl]
  · rw [resRead, show byteRegAt 0x140 = none by decide]
    simp [hl]

end

/-- Settles O52: each open value by the free value that the model takes for it. -/
theorem openValues : Obligations.OpenValues := by
  refine ⟨fun s n1 n2 rest hc _ hct => ⟨_, _, _, _, _, exec_mulfs_open hc hct⟩,
    fun s n1 n2 rest hc hg hzero => ?norml,
    fun s n1 n2 hc => ⟨freeVal 0 s, s.free + 1, exec_pushS2_open hc, exec_rev_open hc, exec_popSa_open hc⟩,
    fun s t a v rest hc hf h => ⟨?byte, ?word⟩,
    fun s a rest hc hl ha => ⟨freeVal 0 s, s.free + 1, execLdo_some hc (resRead_open hl ha) rfl⟩⟩
  case norml =>
    obtain ⟨hdouble, hos, hfree⟩ := openNormalized_frame s
    obtain ⟨cells, hlen, hresult⟩ := sigResult_open (s := useFree 4 (openNormalized s)) (freeVal 0 s ++ freeVal 1 s)
      (show (openNormalized s).os.cells = n2 :: n1 :: rest by rw [hos, hc])
    have hdouble' : (useFree 4 (openNormalized s)).double = s.double := hdouble
    rw [hdouble'] at hlen hresult
    refine ⟨cells, freeVal 2 s, grsOf (freeVal 3 s), (freeVal 3 s).getLsbD 0, s.free + 4, hlen, ?_⟩
    rw [exec_norml_open (nothingToNormalize_of_zero hc hg hzero), hresult, useFree, hfree]
    rfl
  case byte => rw [exec, execLdB, loadWith_replace _ hc (cell_zero hc ▸ h), hf, if_pos rfl]
  case word => rw [exec, execLdW, loadWith_replace _ hc (cell_zero hc ▸ h), hf, if_pos rfl]

end Sys2Proof.Machine
end

section
/-! Stack cache management and the stack pointers (46_stack_cache.md R362 to R367). -/

namespace Sys2Proof.Machine

/-! `lcache` and `scache`. -/

section
variable {s : State} {n : Word} {rest : List Word} {k : Stk}

/-- A stack with enough room on chip is not spilled (10_state.md R28, R32). -/
theorem trim_of_le {m : Nat} (h : (stackOf k s).cells.length ≤ m) (npc : Word) : trim npc k m s = .next s := by
  rw [trim, Nat.sub_eq_zero_of_le h]
  rfl

theorem cacheTo_pos {c : Int} (hlow : 1 ≤ c) (hhigh : c ≤ 14) :
    cacheTo k c s = .next (fill k (leastCells k + c.toNat) s) := by
  rw [cacheTo, if_neg (by omega), if_pos (by omega)]

theorem cacheTo_neg {c : Int} (hlow : -14 ≤ c) (hhigh : c ≤ -1) :
    cacheTo k c s = trim s.flow.npc k (mostCells k - (-c).toNat) s := by
  rw [cacheTo, if_neg (by omega), if_neg (by omega), if_pos (by omega)]

theorem cacheTo_zero : cacheTo k (0 : Word).toInt s = .next s := rfl

theorem exec_lcache (hc : s.os.cells = n :: rest) (ha : s.os.active = true) :
    exec .lcache s = andThen (cacheTo .ls n.toInt (s.stack rest)) fun t => .next (advance t) := by
  rw [exec, execLcache, replaceS_pop hc ha, andThen_next, cell_zero hc]

theorem exec_scache (hc : s.os.cells = n :: rest) :
    exec .scache s = andThen (cacheTo .os n.toInt s) fun t => .next (advance t) := by
  rw [exec, execScache, cell_zero hc]

end

/-- Settles O36: both are `cacheTo` by the sign of the count, `lcache` behind its pop. -/
theorem cacheOps : Obligations.CacheOps := by
  refine ⟨spells_of_core_eq rfl rfl rfl rfl, spells_of_core_eq rfl rfl rfl rfl,
    fun k m s => ⟨fill_of_le s, trim_of_le⟩,
    fun s n rest hc => ⟨fun ha => ⟨fun hlow hhigh => ?lRefill, fun t hlow hhigh ht => ?lSpill, ?lZero⟩,
      fun hlow hhigh => ?sRefill, fun t hlow hhigh ht => ?sSpill, ?sZero⟩⟩
  case lRefill =>
    rw [exec_lcache hc ha, cacheTo_pos hlow hhigh, andThen_next, leastCells, Nat.add_comm]
  case lSpill =>
    have htrim : cacheTo .ls n.toInt (s.stack rest) = .next t := (cacheTo_neg hlow hhigh).trans ht
    rw [exec_lcache hc ha, htrim, andThen_next]
  case lZero =>
    rintro rfl
    rw [exec_lcache hc ha, cacheTo_zero, andThen_next]
  case sRefill =>
    have hleast : leastCells .os + n.toInt.toNat = 2 + (n.toInt.toNat + 1) := by rw [leastCells]; omega
    rw [exec_scache hc, cacheTo_pos hlow hhigh, andThen_next, hleast]
  case sSpill =>
    have hmost : mostCells .os - (-n.toInt).toNat = 2 + (15 - (-n.toInt).toNat) := by rw [mostCells]; omega
    rw [exec_scache hc, cacheTo_neg hlow hhigh, hmost, ht, andThen_next]
  case sZero =>
    rintro rfl
    rw [exec_scache hc, cacheTo_zero, andThen_next]

/-! `lframe` and `sframe`. -/

section
variable {s : State} {n m : Word} {rest : List Word}

theorem length_newCells (k : Nat) (s : State) : (newCells k s).length = k := by simp [newCells]

/-- New cells on top of the local-register stack. -/
theorem exec_lframe_pos (hc : s.os.cells = n :: rest) (ha : s.os.active = true) (hlow : 1 ≤ n.toInt)
    (hhigh : n.toInt ≤ 15) : exec .lframe s = .next (advance (allocateL n.toInt.toNat (s.stack rest))) := by
  simp only [exec, execLframe, cell_zero hc, replaceS_pop hc ha, andThen_next]
  rw [if_neg (by omega), if_pos (by omega)]

/-- New cells under s0 and s1. -/
theorem exec_sframe_pos (hc : s.os.cells = n :: rest) (hlow : 1 ≤ n.toInt) (hhigh : n.toInt ≤ 15) :
    exec .sframe s = .next (advance (allocateS n.toInt.toNat s)) := by
  simp only [exec, execSframe, cell_zero hc]
  rw [if_neg (by omega), if_pos (by omega)]

theorem exec_lframe_neg {k : Nat} (hc : s.os.cells = n :: rest) (ha : s.os.active = true) (hn : n.toInt = -(k : Int))
    (hlow : 1 ≤ k) (hhigh : k ≤ 15) (hls : s.ls.active = true) :
    exec .lframe s = .next (advance (discard .ls 0 k (s.stack rest))) := by
  have hls' : (s.stack rest).ls.active = true := hls
  simp only [exec, execLframe, cell_zero hc, replaceS_pop hc ha, andThen_next]
  rw [if_neg (by omega), if_neg (by omega), if_pos (by omega), if_pos hls', hn, neg_neg, Int.toNat_natCast]

theorem exec_sframe_neg {k : Nat} (hc : s.os.cells = n :: rest) (hn : n.toInt = -(k : Int)) (hlow : 1 ≤ k)
    (hhigh : k ≤ 15) (ha : s.os.active = true) : exec .sframe s = .next (advance (discard .os 2 k s)) := by
  simp only [exec, execSframe, cell_zero hc]
  rw [if_neg (by omega), if_neg (by omega), if_pos (by omega), if_pos ha, hn, neg_neg, Int.toNat_natCast]

/-- Cells discarded off the top of the local-register stack. -/
theorem discard_locals (k : Nat) (s : State) : discard .ls 0 k s = s.setLs
    { cells := s.ls.cells.drop k, ptr := s.ls.ptr + BitVec.ofNat 32 (4 * (k - s.ls.cells.length)),
      active := s.ls.active } := by
  simp only [discard, stackOf, setStack, List.take_zero, List.nil_append, Nat.zero_add, Nat.sub_zero]

/-- Cells discarded under s0 and s1. -/
theorem discard_operands (k : Nat) (hc : s.os.cells = n :: m :: rest) : discard .os 2 k s = s.setOs
    { cells := n :: m :: rest.drop k, ptr := s.os.ptr + BitVec.ofNat 32 (4 * (k - rest.length)),
      active := s.os.active } := by
  have hdrop : (n :: m :: rest).drop (2 + k) = rest.drop k := by rw [Nat.add_comm]; rfl
  simp only [discard, stackOf, setStack, hc, hdrop]
  rfl

theorem allocateS_eq (k : Nat) (hc : s.os.cells = n :: m :: rest) :
    allocateS k s = (s.grown (n :: m :: (newCells k s ++ rest))).setFree (s.free + k) := by
  rw [allocateS, hc]
  rfl

end

/-- Settles O37: the new cells are the model's free values; a discard is `discard`, of the one stack or the other. -/
theorem frames : Obligations.Frames := by
  refine ⟨spells_of_core_eq rfl rfl rfl rfl, spells_of_core_eq rfl rfl rfl rfl,
    fun s n rest hc ha => ⟨fun hlow hhigh => ?lNew, fun k hn hlow hhigh hls => ?lDiscard, ?lZero⟩,
    fun s n m rest hc => ⟨fun hlow hhigh => ?sNew, fun k hn hlow hhigh ha => ?sDiscard, ?sZero⟩⟩
  case lNew =>
    exact ⟨newCells n.toInt.toNat (s.stack rest), s.free + n.toInt.toNat, by rw [length_newCells]; omega,
      exec_lframe_pos hc ha hlow hhigh⟩
  case lDiscard =>
    rw [exec_lframe_neg hc ha hn hlow hhigh hls, discard_locals, ← hls]
    rfl
  case lZero =>
    rintro rfl
    simp only [exec, execLframe, cell_zero hc, replaceS_pop hc ha, andThen_next]
    rfl
  case sNew =>
    exact ⟨newCells n.toInt.toNat s, s.free + n.toInt.toNat, by rw [length_newCells]; omega,
      by rw [exec_sframe_pos hc hlow hhigh, allocateS_eq _ hc]⟩
  case sDiscard => rw [exec_sframe_neg hc hn hlow hhigh ha, discard_operands k hc, ha]
  case sZero =>
    rintro rfl
    simp only [exec, execSframe, cell_zero hc]
    rfl

/-! `pop sa` and `pop la`. -/

section
variable {s : State} {a m1 m2 : Word} {rest : List Word} {k : Stk}

theorem exec_popSa (hc : s.os.cells = a :: m2 :: m1 :: rest) :
    exec .popSa s = .next (advance (setBoundary .os false
      (s.setOs { cells := [m2, m1], ptr := Memory.cellAddress a, active := true }))) := by
  have hmany : decide (s.os.cells.length ≤ 2) = false := s2Missing_cons hc
  simp only [exec, execPopSa, hmany, Bool.false_eq_true, if_false, cell_zero hc, cell_one hc, cell_two hc]

theorem exec_popLa (hc : s.os.cells = a :: rest) (ha : s.os.active = true) :
    exec .popLa s = .next (advance (setBoundary .ls false
      ((s.stack rest).setLs { cells := [], ptr := Memory.cellAddress a, active := true }))) := by
  rw [exec, execPopLa, replaceS_pop hc ha, andThen_next, cell_zero hc]

/-- `Normalize` refills an allocated stack that is one cell short of its fewest once (10_state.md R35). -/
theorem settleRaw_oneShort (hlen : (stackOf k s).cells.length + 1 = leastCells k)
    (ha : (stackOf k s).active = true) : settleRaw k s = refill k s := by
  have hroom : leastCells k ≤ mostCells k := by cases k <;> decide
  have htrim : (stackOf k s).cells.length - mostCells k = 0 := by omega
  have hshort : leastCells k - (stackOf k s).cells.length = 1 := by omega
  rw [settleRaw, htrim, iter, fillActive, if_pos ha, fill, hshort, iter, iter]

/-- That refill brings the cell above the pointer in, where the bus is quiet. -/
theorem stackOf_settleRaw_oneShort (hq : s.busQuiet) (hlen : (stackOf k s).cells.length + 1 = leastCells k)
    (ha : (stackOf k s).active = true) : stackOf k (settleRaw k s) =
      { cells := (stackOf k s).cells ++ [Memory.readCell s.mem ((stackOf k s).ptr + 4)]
        ptr := (stackOf k s).ptr + 4, active := true } := by
  obtain ⟨hposted, hbus, hstuck⟩ := hq
  rw [settleRaw_oneShort hlen ha, stackOf_refill, busRead_quiet s _ hposted hbus hstuck, ← ha]

/-- `Normalize` leaves the operand stack as its own part makes it. -/
theorem normalize_os {npc : Word} {t : State} (h : normalize npc s = .next t) :
    t.os = stackOf .os (settleRaw .os s) := by
  rw [normalize_eq_next h, normalizeRaw_eq]
  exact (settleRaw_moved .ls (settleRaw .os s)).other .os nofun

/-- An operand stack within its bounds is no matter for the local-register stack. -/
theorem normalize_ls {npc : Word} {t : State} (hos : s.osWithin) (h : normalize npc s = .next t) :
    t.ls = stackOf .ls (settleRaw .ls s) := by
  obtain ⟨-, hmost, hleast⟩ := hos
  rw [normalize_eq_next h, normalizeRaw_eq, settleRaw_self (k := .os) hmost hleast]
  rfl

end

/-- Settles O38: the instructions by their pointer and boundary bit, the refill by the stack that is one cell short. -/
theorem stackPointers : Obligations.StackPointers := by
  refine ⟨spells_of_core_eq rfl rfl rfl rfl, spells_of_core_eq rfl rfl rfl rfl,
    fun s a m1 m2 rest hc => exec_popSa hc, fun s a rest hc ha => exec_popLa hc ha,
    fun s t npc m1 m2 hq hc ha _ ht => ?os, fun s t npc hq hos hc ha ht => ?ls⟩
  case os =>
    have hlen : (stackOf .os s).cells.length + 1 = leastCells .os := by rw [stackOf, hc]; rfl
    rw [normalize_os ht, stackOf_settleRaw_oneShort hq hlen ha, stackOf, hc]
    rfl
  case ls =>
    have hlen : (stackOf .ls s).cells.length + 1 = leastCells .ls := by rw [stackOf, hc]; rfl
    rw [normalize_ls hos ht, stackOf_settleRaw_oneShort hq hlen ha, stackOf, hc]
    rfl

end Sys2Proof.Machine
end

section
/-! The bytes and the halves of a cell as numbers (47_byte_word.md R391 to R397). -/

namespace Sys2Proof.Machine

/-- Two values side by side as a number, the high-order one first. -/
theorem append_eq_ofNat {m n : Nat} (hi : BitVec m) (lo : BitVec n) :
    hi ++ lo = BitVec.ofNat (m + n) (hi.toNat * 2 ^ n + lo.toNat) := by
  rw [← BitVec.setWidth_eq (hi ++ lo), ← BitVec.ofNat_toNat, BitVec.toNat_append,
    ← Nat.shiftLeft_add_eq_or_of_lt lo.isLt, Nat.shiftLeft_eq]

/-- The two halves of a cell, zero-extended (R397). -/
theorem halves_setWidth (v : Word) :
    (v.extractLsb' 16 16).setWidth 32 = BitVec.ofNat 32 (v.toNat / 2 ^ 16) ∧
    (v.extractLsb' 0 16).setWidth 32 = BitVec.ofNat 32 (v.toNat % 2 ^ 16) := by
  have hhigh : v.toNat / 2 ^ 16 < 2 ^ 16 := by omega
  simp only [← BitVec.ofNat_toNat, BitVec.extractLsb'_toNat, Nat.shiftRight_eq_div_pow, Nat.mod_eq_of_lt hhigh,
    Nat.pow_zero, Nat.div_one, and_self]

/-- A byte in every place of a cell (R391). -/
theorem repeatedByte_eq_ofNat (b : Byte) :
    (b ++ b ++ b ++ b : Word) = BitVec.ofNat 32 (b.toNat * 0x01010101) := by
  apply BitVec.eq_of_toNat_eq
  simp only [append_eq_ofNat, BitVec.toNat_ofNat]
  omega

theorem byte_eq_zero_iff (v : Word) (k : Nat) : v.extractLsb' (8 * k) 8 = 0 ↔ v.toNat / 256 ^ k % 256 = 0 := by
  rw [← BitVec.toNat_inj, BitVec.extractLsb'_toNat, Nat.shiftRight_eq_div_pow, Nat.pow_mul]
  rfl

/-- The test of `testb` by the numbers of the four bytes (R392). -/
theorem anyByteZero_eq_decide (v : Word) :
    anyByteZero v = decide (∃ k : Fin 4, v.toNat / 256 ^ k.val % 256 = 0) := by
  have hbyte (k : Fin 4) := byte_eq_zero_iff v k.val
  rw [Bool.eq_iff_iff, decide_eq_true_iff]
  simp only [← hbyte, anyByteZero, Bool.or_eq_true, beq_iff_eq]
  constructor
  · rintro (((h | h) | h) | h)
    exacts [⟨3, h⟩, ⟨2, h⟩, ⟨1, h⟩, ⟨0, h⟩]
  · rintro ⟨k, h⟩
    fin_cases k
    exacts [.inr h, .inl (.inr h), .inl (.inl (.inr h)), .inl (.inl (.inl h))]

theorem getLsbD_lowByteMask (i : Nat) : (0xFF#32).getLsbD i = decide (i < 8) := by
  rw [show 0xFF#32 = (BitVec.allOnes 8).setWidth 32 from rfl, BitVec.getLsbD_setWidth, BitVec.getLsbD_allOnes,
    ← Bool.decide_and]
  exact decide_eq_decide.mpr (by omega)

/-- The mask and shift of `replb` put a byte where the encoder's placement puts it (R120, R393). -/
theorem replaceByte_eq_placeByte (p : BitVec 2) (b : Byte) (v : Word) : replaceByte p.toNat b v = placeByte p b v := by
  have hp := p.isLt
  apply BitVec.eq_of_getLsbD_eq
  intro k hk
  simp only [replaceByte, getLsbD_placeByte _ _ _ hk, BitVec.getLsbD_or, BitVec.getLsbD_and, BitVec.getLsbD_not,
    BitVec.getLsbD_shiftLeft, BitVec.getLsbD_setWidth, getLsbD_lowByteMask]
  by_cases hbyte : k / 8 = 3 - p.toNat
  · have hlow : ¬k < 24 - 8 * p.toNat := by omega
    have hbit : k - (24 - 8 * p.toNat) = k % 8 := by omega
    have hmod : k % 8 < 8 ∧ k % 8 < 32 := by omega
    simp [hbyte, hk, hlow, hbit, hmod]
  · by_cases hlow : k < 24 - 8 * p.toNat
    · simp [hbyte, hk, hlow]
    · have hhigh : 8 ≤ k - (24 - 8 * p.toNat) := by omega
      simp [hbyte, hk, hlow, Nat.not_lt.mpr hhigh, BitVec.getLsbD_of_ge b _ hhigh]

/-- The cell that `replb` leaves, byte by byte (R393). -/
theorem groupByte_replaceByte (x : Word) (b : Byte) (v : Word) (k : Fin 4) :
    groupByte (replaceByte (byteIndex x).toNat b v) (BitVec.ofNat 2 k.val) =
      if k.val = x.toNat % 4 then b else groupByte v (BitVec.ofNat 2 k.val) := by
  have hplace : BitVec.ofNat 2 k.val = byteIndex x ↔ k.val = x.toNat % 4 := by
    rw [eq_comm, byteIndex_eq_iff, BitVec.toNat_ofNat, Nat.mod_eq_of_lt k.isLt, eq_comm]
  rw [replaceByte_eq_placeByte, groupByte_placeByte]
  exact if_congr hplace rfl rfl

/-- The cell that `replw` leaves, by bit 1 of `x` (R394). -/
theorem replacedHalf_eq_ofNat (x n1 n2 : Word) :
    (if x.getLsbD 1 then n2.extractLsb' 16 16 ++ n1.extractLsb' 0 16
      else n1.extractLsb' 0 16 ++ n2.extractLsb' 0 16 : Word) =
    BitVec.ofNat 32 (if x.toNat / 2 % 2 = 0 then n1.toNat % 2 ^ 16 * 2 ^ 16 + n2.toNat % 2 ^ 16
      else n2.toNat / 2 ^ 16 * 2 ^ 16 + n1.toNat % 2 ^ 16) := by
  have hhigh : n2.toNat / 2 ^ 16 % 2 ^ 16 = n2.toNat / 2 ^ 16 := Nat.mod_eq_of_lt (by omega)
  rw [BitVec.getLsbD, Nat.testBit_eq_decide_div_mod_eq, Nat.pow_one]
  simp only [append_eq_ofNat, BitVec.extractLsb'_toNat, Nat.shiftRight_eq_div_pow, Nat.pow_zero, Nat.div_one, hhigh]
  rcases Nat.mod_two_eq_zero_or_one (x.toNat / 2) with h | h <;> simp [h]

end Sys2Proof.Machine
end

section
/-! The byte and word operations (47_byte_word.md R391 to R397). -/

namespace Sys2Proof.Machine

section
variable {s : State} {n1 n2 : Word} {rest : List Word}

/-- A result of more cells than its operands: the stack grows, and so is allocated (10_state.md R29). -/
theorem stackResult_grown {k : Nat} {vs : List Word} (hrest : s.os.cells.drop k = rest) (hk : k < vs.length) :
    stackResult k vs s = .next (advance (s.grown (vs ++ rest))) := by
  rw [stackResult_next s (.inl hk.le), hrest, decide_eq_true hk, Bool.or_true]
  rfl

theorem exec_copyb (hc : s.os.cells = n1 :: rest) :
    exec .copyb s = .next (advance (s.stack (BitVec.ofNat 32 (n1.toNat % 256 * 0x01010101) :: rest))) := by
  have hbyte : (n1.extractLsb' 0 8).toNat = n1.toNat % 256 := BitVec.extractLsb'_toNat ..
  simp only [exec, execCopyb, cell_zero hc, repeatedByte_eq_ofNat, hbyte]
  exact unaryResult _ hc

/-- `testb` writes carry and keeps its operand (R392). -/
theorem exec_testb (hc : s.os.cells = n1 :: rest) :
    exec .testb s = .next (advance (s.withCarry (decide (∃ k : Fin 4, n1.toNat / 256 ^ k.val % 256 = 0)))) := by
  simp only [exec, execTestb, cell_zero hc, anyByteZero_eq_decide]
  rfl

theorem exec_sexb (hc : s.os.cells = n1 :: rest) :
    exec .sexb s = .next (advance (s.stack (BitVec.ofInt 32 (BitVec.ofNat 8 n1.toNat).toInt :: rest))) := by
  simp only [exec, execSexb, cell_zero hc]
  exact unaryResult _ hc

theorem exec_sexw (hc : s.os.cells = n1 :: rest) :
    exec .sexw s = .next (advance (s.stack (BitVec.ofInt 32 (BitVec.ofNat 16 n1.toNat).toInt :: rest))) := by
  simp only [exec, execSexw, cell_zero hc]
  exact unaryResult _ hc

/-- `split` leaves one cell more than it takes (R397). -/
theorem exec_split (hc : s.os.cells = n1 :: rest) :
    exec .split s = .next (advance
      (s.grown (BitVec.ofNat 32 (n1.toNat / 2 ^ 16) :: BitVec.ofNat 32 (n1.toNat % 2 ^ 16) :: rest))) := by
  obtain ⟨hhigh, hlow⟩ := halves_setWidth n1
  simp only [exec, execSplit, cell_zero hc, hhigh, hlow]
  exact stackResult_grown (by rw [hc]; rfl) (Nat.lt_succ_self 1)

theorem exec_replb (hc : s.os.cells = n2 :: n1 :: rest) (ha : s.os.active = true) :
    exec .replb s = .next (advance (s.stack (replaceByte (byteIndex s.x).toNat (n1.setWidth 8) n2 :: rest))) := by
  have hbyte : n1.extractLsb' 0 8 = n1.setWidth 8 := BitVec.ofNat_toNat 8 n1
  simp only [exec, execReplb, cell_zero hc, cell_one hc, hbyte]
  exact binaryResult _ hc ha

theorem exec_replw (hc : s.os.cells = n2 :: n1 :: rest) (ha : s.os.active = true) :
    exec .replw s = .next (advance (s.stack
      (BitVec.ofNat 32 (if s.x.toNat / 2 % 2 = 0 then n1.toNat % 2 ^ 16 * 2 ^ 16 + n2.toNat % 2 ^ 16
        else n2.toNat / 2 ^ 16 * 2 ^ 16 + n1.toNat % 2 ^ 16) :: rest))) := by
  simp only [exec, execReplw, cell_zero hc, cell_one hc, replacedHalf_eq_ofNat]
  exact binaryResult _ hc ha

end

/-- Settles O39: each operation by its result as a number, `replb` by the bytes of its result. -/
theorem byteWord : Obligations.ByteWord := by
  refine ⟨spells_of_core_eq rfl rfl rfl rfl, spells_of_core_eq rfl rfl rfl rfl, spells_of_core_eq rfl rfl rfl rfl,
    spells_of_core_eq rfl rfl rfl rfl, spells_of_core_eq rfl rfl rfl rfl, spells_of_core_eq rfl rfl rfl rfl,
    spells_of_core_eq rfl rfl rfl rfl,
    fun s n1 rest hc => ⟨exec_copyb hc, exec_testb hc, exec_sexb hc, exec_sexw hc, exec_split hc⟩,
    fun s n1 n2 rest hc ha => ⟨⟨_, exec_replb hc ha, groupByte_replaceByte s.x _ n2⟩, exec_replw hc ha⟩⟩

end Sys2Proof.Machine
end

section
/-! The floating-point shift to the left, through the GRS extension (48_float.md R400, R401, R412). -/

namespace Sys2Proof.Machine

/-- The field of an exponent that is any integer: its residue, in the field's place (R400, D20). -/
theorem expField_eq_ofInt (d : Bool) (e : Int) :
    expField d e = BitVec.ofInt 32 (e % 2 ^ expWidth d * 2 ^ hiddenPos d) := by
  have hword : expField d e = expField d ((BitVec.ofInt 32 e).toNat : Nat) := by rw [expField, expField, ofInt_toNat]
  have hres : (BitVec.ofInt 32 e).toNat = (e % 2 ^ 32).toNat := BitVec.toNat_ofInt ..
  rw [hword, hres]
  cases d
  · rw [expField_single, ← BitVec.ofInt_natCast]
    congr 1
    simp only [expWidth, hiddenPos, Bool.false_eq_true, if_false]
    omega
  · rw [expField_double, ← BitVec.ofInt_natCast]
    congr 1
    simp only [expWidth, hiddenPos, if_true]
    omega

theorem expField_single_ofInt (e : Int) : expField false e = BitVec.ofInt 32 (e % 256 * 2 ^ 23) :=
  expField_eq_ofInt false e

theorem expField_double_ofInt (e : Int) : expField true e = BitVec.ofInt 32 (e % 2048 * 2 ^ 20) :=
  expField_eq_ofInt true e

/-! A significand with the GRS extension below it (R401). -/

/-- The significand and the GRS extension of a 67-bit value. -/
def parted (x : BitVec 67) : BitVec 64 × Grs := (x.extractLsb' 3 64, ⟨x.getLsbD 2, x.getLsbD 1, x.getLsbD 0⟩)

theorem parted_append (v : BitVec 64) (e : Grs) : parted (v ++ BitVec.ofNat 3 (eighths e)) = (v, e) := by
  refine Prod.ext BitVec.extractLsb'_append_eq_left ?_
  simp only [parted, BitVec.getLsbD_append, Nat.ofNat_pos, Nat.one_lt_ofNat, Nat.lt_succ_self, if_true]
  obtain ⟨g, r, t⟩ := e
  revert g r t
  decide

/-- The two cells of the significand. -/
theorem cells_parted (x : BitVec 67) : (parted x).1.extractLsb' 32 32 = x.extractLsb' 35 32 ∧
    (parted x).1.extractLsb' 0 32 = x.extractLsb' 3 32 := by
  refine ⟨BitVec.eq_of_getLsbD_eq fun i hi => ?_, BitVec.eq_of_getLsbD_eq fun i hi => ?_⟩
  · have h64 : 32 + i < 64 := by omega
    simp [parted, hi, h64, ← Nat.add_assoc]
  · have h64 : i < 64 := by omega
    simp [parted, hi, h64]

/-- One bit to the left: the guard bit enters the significand, a zero enters the extension. -/
theorem shiftLeftGrsStep_parted (x : BitVec 67) : shiftLeftGrsStep (parted x) = parted (x <<< 1) := by
  have hstep : shiftLeftGrsStep (parted x) = ((x.extractLsb' 3 64 <<< 1) ||| (if x.getLsbD 2 then 1#64 else 0#64),
      ⟨x.getLsbD 1, x.getLsbD 0, false⟩) := rfl
  have henter (i : Nat) : (if x.getLsbD 2 then 1#64 else 0#64).getLsbD i = (x.getLsbD 2 && decide (i = 0)) := by
    cases x.getLsbD 2 <;> simp
  rw [hstep]
  refine Prod.ext (BitVec.eq_of_getLsbD_eq fun i hi => ?_) (by simp [parted])
  rw [BitVec.getLsbD_or, henter, BitVec.getLsbD_shiftLeft, parted, BitVec.getLsbD_extractLsb',
    BitVec.getLsbD_extractLsb', BitVec.getLsbD_shiftLeft]
  cases i with
  | zero => simp
  | succ i =>
    have h64 : i < 64 := by omega
    have h67 : 3 + i + 1 < 67 := by omega
    simp [hi, h64, h67, ← Nat.add_assoc]

theorem iter_shiftLeftGrsStep_parted (n : Nat) (x : BitVec 67) :
    iter n shiftLeftGrsStep (parted x) = parted (x <<< n) := by
  induction n with
  | zero => rw [iter, BitVec.shiftLeft_zero]
  | succ n ih => rw [iter_succ_apply, ih, shiftLeftGrsStep_parted, ← BitVec.shiftLeft_add]

/-- The place of the hidden bit when the extension stands below the significand. -/
def leadPos (d : Bool) : Nat := if d then 55 else 26

/-- The `k`-th bit from the hidden bit down is the first one that is set. -/
structure LeadsAt (d : Bool) (x : BitVec 67) (k : Nat) : Prop where
  inside : k ≤ leadPos d
  one : x.getLsbD (leadPos d - k) = true
  zeros : ∀ j < k, x.getLsbD (leadPos d - j) = false

/-- Fewer shifts than it takes leave the first one that much nearer to the hidden bit. -/
theorem LeadsAt.shiftLeft {d : Bool} {x : BitVec 67} {k m : Nat} (h : LeadsAt d x k) (hm : m ≤ k) :
    LeadsAt d (x <<< m) (k - m) := by
  obtain ⟨hinside, hone, hzeros⟩ := h
  have hlead : leadPos d < 67 := by cases d <;> decide
  refine ⟨by omega, ?_, fun j hj => ?_⟩
  · have h67 : leadPos d - (k - m) < 67 := by omega
    have hge : ¬ leadPos d - (k - m) < m := by omega
    rw [BitVec.getLsbD_shiftLeft, decide_eq_true h67, decide_eq_false hge,
      show leadPos d - (k - m) - m = leadPos d - k by omega, hone]
    rfl
  · have hge : ¬ leadPos d - j < m := by omega
    rw [BitVec.getLsbD_shiftLeft, decide_eq_false hge, show leadPos d - j - m = leadPos d - (j + m) by omega,
      hzeros _ (by omega), Bool.and_false]

/-! The masks of `norml` (R412). -/

/-- The hidden bit and the bits to its right, `n` bits in all, make up `mask`. -/
def Covers (d : Bool) (mask : Word) (n : Nat) : Prop :=
  ∀ i : Nat, mask.getLsbD i = decide (i ≤ hiddenPos d ∧ hiddenPos d < i + n)

theorem covers_of_bits {d : Bool} {mask : Word} {n : Nat}
    (h : ∀ i : Fin 32, mask.getLsbD i.val = decide (i.val ≤ hiddenPos d ∧ hiddenPos d < i.val + n)) :
    Covers d mask n := fun i => by
  by_cases hi : i < 32
  · exact h ⟨i, hi⟩
  · have hhigh : ¬ (i ≤ hiddenPos d ∧ hiddenPos d < i + n) := by
      have : hiddenPos d < 32 := by cases d <;> decide
      omega
    rw [BitVec.getLsbD_of_ge _ _ (by omega), decide_eq_false hhigh]

theorem covers_byteMask (d : Bool) : Covers d (byteMask d) 8 := covers_of_bits (by cases d <;> decide)

theorem covers_hiddenBit (d : Bool) : Covers d (hiddenBit d) 1 := covers_of_bits (by cases d <;> decide)

theorem covers_significand (d : Bool) : Covers d (hiddenBit d ||| sigMask d) (hiddenPos d + 1) :=
  covers_of_bits (by cases d <;> decide)

/-- A bit of the top cell, counted from the hidden bit down. -/
theorem getLsbD_sigTop_parted (d : Bool) (x : BitVec 67) {j : Nat} (hj : j ≤ hiddenPos d) :
    (sigTop d (parted x).1).getLsbD (hiddenPos d - j) = x.getLsbD (leadPos d - j) := by
  cases d
  · have hplace : leadPos false - j = 3 + (0 + (hiddenPos false - j)) := by simp [leadPos, hiddenPos] at hj ⊢; omega
    have h32 : hiddenPos false - j < 32 := by simp [hiddenPos]; omega
    have h64 : hiddenPos false - j < 64 := by omega
    rw [hplace]
    simp [sigTop, parted, h32, h64]
  · have hplace : leadPos true - j = 3 + (32 + (hiddenPos true - j)) := by simp [leadPos, hiddenPos] at hj ⊢; omega
    have h32 : hiddenPos true - j < 32 := by simp [hiddenPos]; omega
    have h64 : 32 + (hiddenPos true - j) < 64 := by omega
    rw [hplace]
    simp [sigTop, parted, h32, h64]

/-- A mask finds nothing exactly when each bit that it covers is zero. -/
theorem sigTop_and_eq_zero_iff {d : Bool} {mask : Word} {n : Nat} (h : Covers d mask n) (x : BitVec 67) :
    sigTop d (parted x).1 &&& mask = 0 ↔ ∀ j ≤ hiddenPos d, j < n → x.getLsbD (leadPos d - j) = false := by
  constructor
  · intro hzero j hj hn
    have hbit := congrArg (BitVec.getLsbD · (hiddenPos d - j)) hzero
    have hcovered : hiddenPos d - j ≤ hiddenPos d ∧ hiddenPos d < hiddenPos d - j + n := by omega
    rw [BitVec.getLsbD_and, h, decide_eq_true hcovered, getLsbD_sigTop_parted d x hj, Bool.and_true] at hbit
    rw [hbit]
    exact BitVec.getLsbD_zero
  · intro hzeros
    refine BitVec.eq_of_getLsbD_eq fun i _ => ?_
    rw [BitVec.getLsbD_and, h]
    by_cases hi : i ≤ hiddenPos d ∧ hiddenPos d < i + n
    · obtain ⟨hle, hlt⟩ := hi
      have hbit := getLsbD_sigTop_parted d x (Nat.sub_le (hiddenPos d) i)
      rw [Nat.sub_sub_self hle, hzeros _ (Nat.sub_le _ _) (by omega)] at hbit
      simp [hbit]
    · simp [hi]

/-! The loops of `norml`. -/

/-- A loop whose mask covers `n` bits shifts by `n` until the first one is among them. -/
theorem normlLoop_eq {d : Bool} {mask : Word} {n : Nat} (hmask : Covers d mask n) (hn : 0 < n)
    (hpos : n ≤ hiddenPos d + 1) {fuel : Nat} {x : BitVec 67} {k : Nat} (hx : LeadsAt d x k) (hfuel : k / n ≤ fuel) :
    normlLoop d mask n fuel (parted x) = (parted (x <<< (n * (k / n))), n * (k / n)) := by
  induction fuel generalizing x k with
  | zero =>
    rw [Nat.le_zero.1 hfuel, Nat.mul_zero, BitVec.shiftLeft_zero]
    rfl
  | succ fuel ih =>
    by_cases hk : k < n
    · have hfound : sigTop d (parted x).1 &&& mask ≠ 0 := fun hzero => by
        have hbit := (sigTop_and_eq_zero_iff hmask x).1 hzero k (by omega) hk
        exact Bool.false_ne_true (hbit.symm.trans hx.one)
      rw [normlLoop, if_pos hfound, Nat.div_eq_of_lt hk, Nat.mul_zero, BitVec.shiftLeft_zero]
    · have hk' : n ≤ k := Nat.le_of_not_lt hk
      have hzero : sigTop d (parted x).1 &&& mask = 0 :=
        (sigTop_and_eq_zero_iff hmask x).2 fun j _ hj => hx.zeros j (Nat.lt_of_lt_of_le hj hk')
      have hdiv : k / n = (k - n) / n + 1 := Nat.div_eq_sub_div hn hk'
      rw [normlLoop, if_neg (not_not_intro hzero), iter_shiftLeftGrsStep_parted,
        ih (hx.shiftLeft hk') (by omega), ← BitVec.shiftLeft_add, hdiv, Nat.mul_succ, Nat.add_comm n]

/-- Where a bit is set from the hidden bit down, `norml` ends (U12). -/
theorem nothingToNormalize_parted {d : Bool} {x : BitVec 67} {k : Nat} (hx : LeadsAt d x k) :
    nothingToNormalize d (parted x).1 (parted x).2 = false := by
  obtain ⟨hinside, hone, -⟩ := hx
  refine Bool.eq_false_of_not_eq_true fun hnothing => ?_
  simp only [nothingToNormalize, Bool.and_eq_true, beq_iff_eq] at hnothing
  obtain ⟨⟨htop, hlow⟩, hgrs⟩ := hnothing
  have hzeros := (sigTop_and_eq_zero_iff (covers_significand d) x).1 htop
  have htoplt : hiddenPos d < k := by
    by_contra hle
    exact Bool.false_ne_true ((hzeros k (by omega) (by omega)).symm.trans hone)
  have hgrs0 : ∀ i < 3, x.getLsbD i = false := by
    simp only [grsAny, parted, Bool.not_eq_true', Bool.or_eq_false_iff] at hgrs
    obtain ⟨⟨h2, h1⟩, h0⟩ := hgrs
    intro i hi
    interval_cases i <;> assumption
  by_cases hlt : leadPos d - k < 3
  · exact Bool.false_ne_true ((hgrs0 _ hlt).symm.trans hone)
  · cases d
    · simp only [leadPos, hiddenPos, Bool.false_eq_true, if_false] at hlt htoplt
      omega
    · simp only [leadPos, hiddenPos, if_true] at hlt htoplt hinside hone
      have hbit := congrArg (BitVec.getLsbD · (55 - k - 3)) (beq_iff_eq.1 hlow)
      have h32 : 55 - k - 3 < 32 := by omega
      have h64 : 55 - k - 3 < 64 := by omega
      have hsum : 3 + (55 - k - 3) = 55 - k := by omega
      simp [parted, h32, h64, hsum, hone] at hbit

/-- `norml` in closed form, in either precision. -/
theorem execNorml_eq {s : State} {x : BitVec 67} {k : Nat} {rest : List Word}
    (hop : (sigOperand s, grsOf s.mode) = parted x) (hx : LeadsAt s.double x k)
    (hrest : s.os.cells.drop (if s.double then 2 else 1) = rest) :
    exec .norml s = .next (advance ((normalizedState (parted (x <<< k)).2 ((expOf s.double s.ct : Int) - k)
      (signalWhen (decide (0 < k ∧ expOf s.double s.ct ≤ k)) .fpUnf) s).stack
      (if s.double then (parted (x <<< k)).1.extractLsb' 32 32 :: (parted (x <<< k)).1.extractLsb' 0 32 :: rest
        else (parted (x <<< k)).1.extractLsb' 0 32 :: rest))) := by
  have hinside : k ≤ 55 := hx.inside.trans (by cases s.double <;> decide)
  have hsplit : 8 * (k / 8) + (k - 8 * (k / 8)) = k := by omega
  have hrange : 7 ≤ hiddenPos s.double := by cases s.double <;> decide
  have hnothing : nothingToNormalize s.double (sigOperand s) (grsOf s.mode) = false := by
    have h := nothingToNormalize_parted hx
    rwa [← hop] at h
  have hbytes := normlLoop_eq (covers_byteMask s.double) (by decide) (by omega) (fuel := 8) hx (by omega)
  have hbits := normlLoop_eq (covers_hiddenBit s.double) (by decide) (by omega) (fuel := 8)
    (hx.shiftLeft (m := 8 * (k / 8)) (by omega)) (by omega)
  rw [Nat.div_one, Nat.one_mul, ← BitVec.shiftLeft_add, hsplit] at hbits
  have hle : decide ((expOf s.double s.ct : Int) - k ≤ 0) = decide (expOf s.double s.ct ≤ k) :=
    decide_eq_decide.2 (by omega)
  rw [← normalizedResult_eq (fun u => signalWhen_os u _ _) (signalWhen_double _ _) _ _ _ hrest]
  simp only [exec, execNorml, hnothing, Bool.false_eq_true, if_false, hop, hbytes, hbits, hsplit, hle, Bool.decide_and]

/-! A single-precision operand is one cell: what stands above it stays out of sight. -/

theorem setWidth_append_low (v : Word) (lo : BitVec 3) : v.setWidth 64 ++ lo = (v ++ lo).setWidth 67 := by
  refine BitVec.eq_of_getLsbD_eq fun i hi => ?_
  simp only [BitVec.getLsbD_append, BitVec.getLsbD_setWidth, decide_eq_true hi, Bool.true_and]
  by_cases hlow : i < 3
  · rw [if_pos hlow, if_pos hlow]
  · rw [if_neg hlow, if_neg hlow, decide_eq_true (by omega), Bool.true_and]

theorem getLsbD_setWidth_shiftLeft (w : BitVec 35) (k : Nat) {i : Nat} (hi : i < 35) :
    (w.setWidth 67 <<< k).getLsbD i = (w <<< k).getLsbD i := by
  have hwide : i < 67 := by omega
  have hpart : i - k < 67 := by omega
  rw [BitVec.getLsbD_shiftLeft, BitVec.getLsbD_shiftLeft, BitVec.getLsbD_setWidth, decide_eq_true hi,
    decide_eq_true hwide, decide_eq_true hpart, Bool.true_and (w.getLsbD _)]

/-- Settles O44: both loops of `norml` shift a significand that has the GRS extension below it; a single-precision one
is the low part of a double-precision one. -/
theorem normalizeLeft : Obligations.NormalizeLeft := by
  refine ⟨spells_of_core_eq rfl rfl rfl rfl, fun s n1 rest k e w hc hd hw hk hone hzeros he => ?single,
    fun s hi lo rest k e w hc hd hw hk hone hzeros he => ?double⟩
  case single =>
    have hop : (sigOperand s, grsOf s.mode) = parted (w.setWidth 67) := by
      rw [hw, sigOperand_single hc hd, ← setWidth_append_low, parted_append]
    have hlow (j : Nat) : (w.setWidth 67).getLsbD (26 - j) = w.getLsbD (26 - j) := by
      rw [BitVec.getLsbD_setWidth, decide_eq_true (by omega), Bool.true_and]
    have hx : LeadsAt s.double (w.setWidth 67) k := by
      rw [hd]
      exact ⟨hk, (hlow k).trans hone, fun j hj => (hlow j).trans (hzeros j hj)⟩
    have hgrs : (parted (w.setWidth 67 <<< k)).2 = e := by
      rw [he, parted, getLsbD_setWidth_shiftLeft _ _ (by decide), getLsbD_setWidth_shiftLeft _ _ (by decide),
        getLsbD_setWidth_shiftLeft _ _ (by decide)]
    have hcell : (w.setWidth 67 <<< k).extractLsb' 3 32 = (w <<< k).extractLsb' 3 32 :=
      BitVec.eq_of_getLsbD_eq fun i hi => by
        rw [BitVec.getLsbD_extractLsb', BitVec.getLsbD_extractLsb', getLsbD_setWidth_shiftLeft _ _ (by omega)]
    rw [execNorml_eq hop hx (rest := rest) (by simp [hc, hd]), normalizedState, withExp, hd, expField_single_ofInt,
      hgrs]
    simp only [expOf_single, cells_parted, hcell, Bool.false_eq_true, if_false]
    rfl
  case double =>
    have hop : (sigOperand s, grsOf s.mode) = parted w := by rw [hw, sigOperand_double hc hd, parted_append]
    have hx : LeadsAt s.double w k := by rw [hd]; exact ⟨hk, hone, hzeros⟩
    have hgrs : (parted (w <<< k)).2 = e := he.symm
    rw [execNorml_eq hop hx (rest := rest) (by simp [hc, hd]), normalizedState, withExp, hd, expField_double_ofInt,
      hgrs]
    simp only [expOf_double, cells_parted, if_true]
    rfl

end Sys2Proof.Machine
end

section
/-! The other operations on exponents and significands, and rounding (48_float.md R402 to R408, R413, R414). -/

namespace Sys2Proof.Machine

section
variable {s : State} {n1 n2 : Word} {rest : List Word}

/-- Two cells replaced by two (R404). -/
theorem exec_expdif (hc : s.os.cells = n2 :: n1 :: rest) :
    exec .expdif s = .next (advance ((s.stack (sigOf s.double n2 :: sigOf s.double n1 :: rest)).setCt
      ((s.ct &&& 0x0000FFFF) ||| expField s.double ((expOf s.double n1 : Int) - expOf s.double n2)))) := by
  simp only [exec, execExpdif, cell_zero hc, cell_one hc]
  exact stackResult_stack (s := s.setCt _) (by simp [hc]) (.inl rfl)

/-- `addexp` and `subexp`, for the exponent that each computes (R402, R403). -/
theorem exponentResult_eq (hc : s.os.cells = n2 :: n1 :: rest) (e : Int) : exponentResult e s =
    .next (advance ((signalWhen (decide (e ≤ 0)) .fpUnf (signalWhen (decide (expMax s.double ≤ e)) .fpOvf s)).grown
      ((((n1 ^^^ n2) &&& signMask) ||| expField s.double e) :: sigOf s.double n2 :: sigOf s.double n1 :: rest))) := by
  simp only [exponentResult, cell_zero hc, cell_one hc]
  exact stackResult_grown (by simp [hc]) (Nat.lt_succ_self 2)

end

/-- Settles O40: the exponent field of any integer as its residue. -/
theorem floatExponents : Obligations.FloatExponents := by
  refine ⟨spells_of_core_eq rfl rfl rfl rfl, spells_of_core_eq rfl rfl rfl rfl, spells_of_core_eq rfl rfl rfl rfl,
    fun s n1 n2 rest d hc hd => ⟨fun e i hi => ?result, ?expdif⟩⟩
  case result =>
    subst hd
    rw [← expField_eq_ofInt]
    rcases hi with ⟨rfl, rfl⟩ | ⟨rfl, rfl⟩
    · simp only [exec, execAddexp, cell_zero hc, cell_one hc]
      exact exponentResult_eq hc _
    · simp only [exec, execSubexp, cell_zero hc, cell_one hc]
      exact exponentResult_eq hc _
  case expdif =>
    rw [hd, ← expField_eq_ofInt]
    exact exec_expdif hc

/-! The fields (R405 to R408). -/

/-- The sign and the exponent field. -/
theorem signExpMask_eq (d : Bool) : signMask ||| expMask d = if d then 0xFFF00000 else 0xFF800000 := by
  cases d <;> rfl

theorem sigOf_eq (d : Bool) (v : Word) : sigOf d v =
    if d then (v &&& 0x000FFFFF) ||| 0x00100000 else (v &&& 0x007FFFFF) ||| 0x00800000 := by cases d <;> rfl

/-- A significand with the sign and the exponent of another cell (R407). -/
theorem replacedExp_eq (d : Bool) (v w : Word) : (v &&& sigMask d) ||| (w &&& (signMask ||| expMask d)) =
    if d then (v &&& 0x000FFFFF) ||| (w &&& 0xFFF00000) else (v &&& 0x007FFFFF) ||| (w &&& 0xFF800000) := by
  cases d <;> rfl

/-- The special exponents as numbers (R408). -/
theorem specialExp_single (v : Word) :
    specialExp false v = decide (v.toNat / 2 ^ 23 % 256 = 0 ∨ v.toNat / 2 ^ 23 % 256 = 255) := by
  rw [specialExp, expOf_single, Bool.decide_or]
  exact congrArg _ (decide_eq_decide.2 Nat.cast_inj)

theorem specialExp_double (v : Word) :
    specialExp true v = decide (v.toNat / 2 ^ 20 % 2048 = 0 ∨ v.toNat / 2 ^ 20 % 2048 = 2047) := by
  rw [specialExp, expOf_double, Bool.decide_or]
  exact congrArg _ (decide_eq_decide.2 Nat.cast_inj)

section
variable {s : State} {n1 n2 : Word} {rest : List Word}

theorem exec_testexp (hc : s.os.cells = n2 :: n1 :: rest) {b : Bool}
    (hb : b = (specialExp s.double n1 || specialExp s.double n2)) : exec .testexp s =
    .next (advance (signalWhen b .fpExp ((s.withGrs ⟨false, false, false⟩).withCarry b))) := by
  subst hb
  simp only [exec, execTestexp, cell_zero hc, cell_one hc]
  rfl

theorem exec_replexp (hc : s.os.cells = n2 :: n1 :: rest) (ha : s.os.active = true) : exec .replexp s =
    .next (advance ((s.stack (((n1 &&& sigMask s.double) ||| (n2 &&& (signMask ||| expMask s.double))) ::
      rest)).withGrs ⟨false, false, false⟩)) := by
  simp only [exec, execReplexp, cell_zero hc, cell_one hc]
  exact binaryResult (s := setGrs noGrs s) _ hc ha

end

/-- Settles O41: each mask by the precision, the special exponents as numbers. -/
theorem floatFields : Obligations.FloatFields := by
  refine ⟨spells_of_core_eq rfl rfl rfl rfl, spells_of_core_eq rfl rfl rfl rfl, spells_of_core_eq rfl rfl rfl rfl,
    spells_of_core_eq rfl rfl rfl rfl, fun s n1 rest hc => ⟨?extexp, ?extsig⟩,
    fun s n1 n2 rest hc => ⟨fun ha => ?replexp, fun b hb => ?testexp⟩⟩
  case extexp =>
    rw [← signExpMask_eq]
    simp only [exec, execExtexp, cell_zero hc]
    exact unaryResult _ hc
  case extsig =>
    rw [← sigOf_eq]
    simp only [exec, execExtsig, cell_zero hc]
    exact unaryResult _ hc
  case replexp =>
    rw [← replacedExp_eq]
    exact exec_replexp hc ha
  case testexp =>
    refine exec_testexp hc (hb.trans ?_)
    rw [State.double]
    cases s.mode.getLsbD 0
    · simp only [specialExp_single, ← Bool.decide_or, or_assoc, Bool.false_eq_true, if_false]
    · simp only [specialExp_double, ← Bool.decide_or, or_assoc, if_true]

/-! Rounding (R413, R414). -/

/-- Table 31 as one test and, at exactly one half, to even. -/
theorem roundAction_eq (m : BitVec 2) (negative : Bool) (e : Grs) : roundAction m negative e =
    if roundsUp m negative (eighths e) then (if m = 0 ∧ eighths e = 4 then .incrementClearBit0 else .increment)
    else .nothing := by
  obtain ⟨g, r, t⟩ := e
  revert m negative g r t
  decide

/-- A rounded cell on the stack, behind the carry and the signal (R413). -/
theorem roundResult {s : State} {n1 : Word} {rest : List Word} (hc : s.os.cells = n1 :: rest) (n2 : Word)
    (c b : Bool) : stackResult 1 [n2] (signalWhen b .fpRnd (setCarry c s)) =
      .next (advance ((signalWhen b .fpRnd (s.withCarry c)).stack (n2 :: rest))) :=
  unaryResult _ (by rw [signalWhen_os]; exact hc)

/-- Settles O45: `rnd` leaves s0 as it is, adds one to it, or adds one and makes it even. -/
theorem rounding : Obligations.Rounding := by
  refine ⟨spells_of_core_eq rfl rfl rfl rfl, fun s n1 n2 rest hc hn => ?_⟩
  have hsign : s.ct.getLsbD 31 = s.ct.msb := (BitVec.msb_eq_getLsbD_last s.ct).symm
  have hcarry : (n1 == Word.allOnes) = decide (n1 = 0xFFFFFFFF) := rfl
  rw [rounded] at hn
  simp only [exec, execRnd, roundAction_eq, cell_zero hc, State.roundMode, hsign, hcarry]
  by_cases hup : roundsUp (s.mode.extractLsb' 1 2) s.ct.msb (eighths (grsOf s.mode)) = true
  · rw [if_pos hup] at hn ⊢
    by_cases heven : s.mode.extractLsb' 1 2 = 0 ∧ eighths (grsOf s.mode) = 4
    · rw [if_pos heven] at hn ⊢
      have hne : ((n1 + 1) &&& ~~~1#32 != n1) = decide ((n1 + 1) &&& 0xFFFFFFFE ≠ n1) := by
        rw [decide_not]
        rfl
      rw [hup, Bool.true_and, hn, ← hne]
      exact roundResult hc _ _ _
    · rw [if_neg heven] at hn ⊢
      have hne : n1 + 1 ≠ n1 := by simp
      rw [hup, Bool.true_and, hn, decide_eq_true hne]
      exact roundResult hc _ _ true
  · rw [if_neg hup] at hn ⊢
    rw [Bool.eq_false_of_not_eq_true hup, hn, Bool.false_and, decide_eq_false (not_not_intro rfl)]
    exact roundResult hc _ _ false

end Sys2Proof.Machine
end

section
/-! `bkpt` and `step` (49_debug_onchip_misc.md R430, R431). -/

namespace Sys2Proof.Machine

/-- Settles O46: `bkpt` by definition, `step` as a return that arms the trap. -/
theorem debugging : Obligations.Debugging := by
  refine ⟨spells_of_core_eq rfl rfl rfl rfl, spells_of_core_eq rfl rfl rfl rfl, fun s => rfl,
    fun s t a rest hc ha ht h => ?_⟩
  simp only [exec, execStep, popL_next hc ha]
  exact transferTo_next ht h rfl rfl rfl

end Sys2Proof.Machine
end

section
/-! The priority of the traps, and the taking of any number of them (60_exceptions.md R470 to R472). -/

namespace Sys2Proof.Machine

/-! The priority as one number (R470). -/

/-- Class, key and place of a trap as the digits of a number. -/
def trapHeight (t : Trap) : Nat := (trapClass t * 16 + trapRank t) * 16 + t.index

theorem trapRank_lt (t : Trap) : trapRank t < 16 := by
  have hkey (u : Trap) : (Config.trapKey u).val < 16 := (Config.trapKey u).isLt
  cases t <;> simp only [trapRank, hkey]
  case fpNrm => exact Nat.lt_of_le_of_lt (Nat.min_le_left _ _) (hkey _)

theorem trapIndex_lt (t : Trap) : t.index < 16 := by cases t <;> decide

/-- A trap is below another one when its number is smaller. -/
theorem trapBelow_iff (t u : Trap) : trapBelow t u = true ↔ trapHeight t < trapHeight u := by
  have ht := trapRank_lt t
  have hu := trapRank_lt u
  have ht' := trapIndex_lt t
  have hu' := trapIndex_lt u
  simp only [trapBelow, trapHeight, Bool.or_eq_true, Bool.and_eq_true, decide_eq_true_eq]
  omega

/-- The traps by their places. -/
def listedTraps : List Trap :=
  [.step, .fpNrm, .fpRnd, .fpOvf, .fpUnf, .fpExp, .memFault, .lsUnf, .lsOvf, .osUnf, .osOvf]

theorem getElem?_listedTraps_index (t : Trap) : listedTraps[t.index]? = some t := by cases t <;> rfl

/-- No two traps have the same number. -/
theorem trapHeight_injective {t u : Trap} (h : trapHeight t = trapHeight u) : t = u := by
  have ht' := trapIndex_lt t
  have hu' := trapIndex_lt u
  have hindex : t.index = u.index := by
    simp only [trapHeight] at h
    omega
  have hlisted := getElem?_listedTraps_index t
  rw [hindex, getElem?_listedTraps_index] at hlisted
  exact (Option.some.inj hlisted).symm

theorem trapClass_le_two (t : Trap) : trapClass t ≤ 2 := by cases t <;> decide

theorem trapClass_eq_two_iff (t : Trap) : trapClass t = 2 ↔ t ∈ [Trap.osOvf, .osUnf, .lsOvf, .lsUnf] := by
  cases t <;> decide

theorem trapClass_eq_zero_iff (t : Trap) : trapClass t = 0 ↔ t = .step := by cases t <;> decide

/-- The class decides before everything else. -/
theorem trapBelow_of_trapClass_lt {t u : Trap} (h : trapClass t < trapClass u) : trapBelow t u = true := by
  simp [trapBelow, h]

/-- The normalize trap is below a trap of its class whose key its own never exceeds. -/
theorem fpNrm_trapBelow {u : Trap} (hclass : trapClass .fpNrm = trapClass u) (hrank : trapRank .fpNrm ≤ trapRank u)
    (hindex : Trap.index .fpNrm < u.index) : trapBelow .fpNrm u = true := by
  rw [trapBelow_iff, trapHeight, trapHeight, hclass]
  omega

/-- Settles O55: the order of the numbers, and what each class and key is. -/
theorem trapOrder : Obligations.TrapOrder := by
  refine ⟨fun t => ?irreflexive, fun t u hne => ?total, fun t u v htu huv => ?transitive, fun t u ht hu => ?pages,
    fun t ht => ?step, fpNrm_trapBelow rfl ?underflow (by decide), fpNrm_trapBelow rfl ?overflow (by decide)⟩
  case irreflexive => rw [← Bool.not_eq_true, trapBelow_iff]; exact Nat.lt_irrefl _
  case total =>
    have hdiff : trapHeight t ≠ trapHeight u := fun h => hne (trapHeight_injective h)
    rw [← Bool.not_eq_true, trapBelow_iff, trapBelow_iff]
    omega
  case transitive =>
    rw [trapBelow_iff] at htu huv ⊢
    exact Nat.lt_trans htu huv
  case pages =>
    have hclass : trapClass t = 2 := (trapClass_eq_two_iff t).2 ht
    have hclass' : trapClass u ≠ 2 := fun h => hu ((trapClass_eq_two_iff u).1 h)
    exact trapBelow_of_trapClass_lt (by have := trapClass_le_two u; omega)
  case step => exact trapBelow_of_trapClass_lt (Nat.pos_of_ne_zero fun h => ht ((trapClass_eq_zero_iff t).1 h))
  case underflow => exact (Nat.min_le_right _ _).trans (Nat.min_le_left _ _)
  case overflow => exact (Nat.min_le_right _ _).trans (Nat.min_le_right _ _)

/-! The lowest-priority one of the pending traps (R472). -/

/-- The one of two traps that `lowestTrap` keeps. -/
theorem ite_trapBelow_eq {t u v : Trap} (hu : u = t ∨ u = v) (ht : t ≠ u → trapBelow u t = true)
    (hv : v ≠ u → trapBelow u v = true) : (if trapBelow v t then v else t) = u := by
  simp only [trapBelow_iff] at ht hv ⊢
  by_cases htu : t = u
  · by_cases hvu : v = u
    · rw [htu, hvu, ite_self]
    · rw [if_neg (by have := hv hvu; rw [htu]; omega), htu]
  · have hvu : v = u := (hu.resolve_left (Ne.symm htu)).symm
    rw [hvu, if_pos (ht htu)]

/-- A member below all other members is the lowest one. -/
theorem lowestTrap_eq {t u : Trap} {ts : List Trap} (hu : u ∈ t :: ts)
    (hleast : ∀ v ∈ t :: ts, v ≠ u → trapBelow u v = true) : lowestTrap t ts = u := by
  induction ts generalizing t with
  | nil => exact (List.mem_singleton.1 hu).symm
  | cons v vs ih =>
    have hkept : (if trapBelow v t then v else t) = t ∨ (if trapBelow v t then v else t) = v := by
      split <;> simp
    refine ih ?_ fun w hw => ?_
    · by_cases hvs : u ∈ vs
      · exact List.mem_cons_of_mem _ hvs
      · have htv : u = t ∨ u = v := by simpa [hvs] using hu
        rw [ite_trapBelow_eq htv (hleast t (by simp)) (hleast v (by simp))]
        exact List.mem_cons_self
    · refine hleast w ?_
      rcases hkept with h | h <;> rw [h] at hw <;> simp only [List.mem_cons] at hw ⊢ <;> tauto

/-! The loop of `TakePending` on traps in the order of their priority (R472). -/

/-- Removing the first of pending traps without repetition leaves the others. -/
theorem removePending_perm {s : State} {u : Trap} {us : List Trap} (hp : (u :: us).Perm s.ctl.pending)
    (hu : u ∉ us) : us.Perm (removePending u s).ctl.pending := by
  have hfilter : (u :: us).filter (· != u) = us := by
    rw [List.filter_cons_of_neg (by simp)]
    exact List.filter_eq_self.2 fun v hv => bne_iff_ne.2 (ne_of_mem_of_not_mem hv hu)
  have hperm := hp.filter (· != u)
  rwa [hfilter] at hperm

/-- One turn of the loop: the lowest-priority trap is removed, and the return address pushed. -/
theorem nestTraps_succ {s : State} {u : Trap} {us : List Trap} (n : Nat) (ra : Word)
    (hp : (u :: us).Perm s.ctl.pending) (hleast : ∀ v ∈ us, trapBelow u v = true) (hos : s.osWithin)
    (hls : s.ls.cells.length < 15) :
    nestTraps (n + 1) ra s = nestTraps n (vectorOf u) (pushL ra (removePending u s)) := by
  have hsettled : normalizeRaw (pushL ra (removePending u s)) = pushL ra (removePending u s) :=
    normalizeRaw_self hos ⟨hls, fun _ => Nat.le_add_left 1 _⟩
  cases hpend : s.ctl.pending with
  | nil => rw [hpend] at hp; exact absurd hp.length_eq (Nat.succ_ne_zero _)
  | cons t ts =>
    rw [hpend] at hp
    have hlowest : lowestTrap t ts = u := lowestTrap_eq (hp.subset List.mem_cons_self) fun v hv hne =>
      hleast v (List.mem_of_ne_of_mem hne (hp.mem_iff.2 hv))
    rw [nestTraps, hpend]
    simp only [hlowest, hsettled]

/-- The state in which the traps of `lower` are nested over the return address `ra`, with none left pending. -/
def State.nested (s : State) (ra : Word) (lower : List Trap) : State :=
  (s.localsGrown ((lower.map vectorOf).reverse ++ ra :: s.ls.cells)).setCtl { s.ctl with pending := [] }

/-- One trap more below the others. -/
theorem nested_cons (s : State) (ra : Word) (u : Trap) (us : List Trap) :
    (pushL ra (removePending u s)).nested (vectorOf u) us = s.nested ra (u :: us) := by
  rw [State.nested, State.nested, List.map_cons, List.reverse_cons, List.append_assoc]
  rfl

/-- The whole loop: the traps come in the order of their priority (R472). -/
theorem nestTraps_sorted {s : State} {lower : List Trap} {top : Trap} {n : Nat} {ra : Word}
    (hp : (lower ++ [top]).Perm s.ctl.pending) (hsorted : (lower ++ [top]).Pairwise fun t u => trapBelow t u = true)
    (hos : s.osWithin) (hroom : s.ls.cells.length + lower.length < 15) (hfuel : lower.length < n) :
    nestTraps n ra s = (vectorOf top, s.nested ra lower) := by
  obtain ⟨n, rfl⟩ : ∃ m, n = m + 1 := ⟨n - 1, by omega⟩
  induction lower generalizing s ra n with
  | nil =>
    have hnone : (removePending top s).ctl.pending = [] := (removePending_perm hp List.not_mem_nil).symm.eq_nil
    have hctl : removePending top s = s.setCtl { s.ctl with pending := [] } :=
      congrArg (fun l => s.setCtl { s.ctl with pending := l }) hnone
    rw [nestTraps_succ n ra hp (fun v hv => absurd hv List.not_mem_nil) hos hroom,
      nestTraps_none (s := pushL ra (removePending top s)) n _ hnone, hctl]
    rfl
  | cons u us ih =>
    obtain ⟨hleast, hrest⟩ := List.pairwise_cons.1 hsorted
    have hu : u ∉ us ++ [top] := fun hmem => Nat.lt_irrefl _ ((trapBelow_iff u u).1 (hleast u hmem))
    have hpushed : (pushL ra (removePending u s)).ls.cells.length = s.ls.cells.length + 1 := rfl
    rw [List.length_cons] at hroom hfuel
    obtain ⟨n, rfl⟩ : ∃ m, n = m + 1 := ⟨n - 1, by omega⟩
    rw [nestTraps_succ (n + 1) ra hp hleast hos (by omega),
      ih (s := pushL ra (removePending u s)) (removePending_perm hp hu) hrest hos (by omega) n (by omega), nested_cons]

/-! The order in which pending traps are nested. -/

/-- Traps without repetition, in the order of their priority (R470). -/
theorem exists_sorted_traps {l : List Trap} (hne : l ≠ []) (hnodup : l.Nodup) : ∃ (lower : List Trap) (top : Trap),
    (lower ++ [top]).Perm l ∧ (lower ++ [top]).Pairwise fun t u => trapBelow t u = true := by
  obtain ⟨sorted, hperm, hle⟩ : ∃ sorted : List Trap, sorted.Perm l ∧
      sorted.Pairwise fun t u => decide (trapHeight t ≤ trapHeight u) = true := by
    refine ⟨_, List.mergeSort_perm .., List.pairwise_mergeSort (fun t u v htu huv => ?_) (fun t u => ?_) l⟩
    · exact decide_eq_true ((of_decide_eq_true htu).trans (of_decide_eq_true huv))
    · rw [← Bool.decide_or]
      exact decide_eq_true (Nat.le_total _ _)
  have hlt : sorted.Pairwise fun t u => trapBelow t u = true :=
    hle.imp₂ (fun t u h hne => (trapBelow_iff t u).2
      ((of_decide_eq_true h).lt_of_ne fun heq => hne (trapHeight_injective heq))) (hperm.nodup_iff.2 hnodup)
  rcases List.eq_nil_or_concat sorted with rfl | ⟨lower, top, rfl⟩
  · exact absurd hperm.symm.eq_nil hne
  · rw [List.concat_eq_append] at hperm hlt
    exact ⟨lower, top, hperm, hlt⟩

/-- On a quiet bus the vector's own fetch makes no trap pending: the traps are taken once. -/
theorem takePending_eq {s t : State} (hp : s.ctl.pending ≠ []) (hb : s.plat.bus = [])
    (henter : enterTraps s = t) (ht : t.ctl.pending = []) : takePending s = t := by
  rw [takePending, hb, takeTraps, if_neg hp, henter, List.length_nil, takeTraps, if_pos ht]

/-- Settles O56: the traps in the order of their priority, nested one after the other. -/
theorem trapNesting : Obligations.TrapNesting := by
  intro s hq hos hpend hnodup hroom
  obtain ⟨hposted, hbus, hstuck⟩ := hq
  obtain ⟨lower, top, hperm, hsorted⟩ := exists_sorted_traps hpend hnodup
  refine ⟨lower, top, hperm, hsorted, takePending_eq hpend hbus ?_ rfl⟩
  have hlen : lower.length + 1 = s.ctl.pending.length := by rw [← hperm.length_eq, List.length_append]; rfl
  rw [enterTraps, nestTraps_sorted hperm hsorted hos (by omega) (by omega)]
  exact enterGroup_quiet _ _ hposted hbus hstuck

end Sys2Proof.Machine
end

section
/-! The interrupt controller and the taking of an interrupt (60_exceptions.md R480, R481, R484, R485). -/

namespace Sys2Proof.Machine

/-! The interrupt controller. -/

/-- Bit `i` of the inputs after one update: an input that follows its pin, or keeps a zero (R484). -/
theorem getLsbD_ioin_intcTick (s : State) (S : Byte) (i : Nat) : (intcTick s S).res.ioin.getLsbD i =
    (S.getLsbD i && ((s.res.ioie.getLsbD i && (s.res.ioip.getLsbD i || s.res.ioius.getLsbD i)) ||
      s.res.ioin.getLsbD i)) := by
  simp only [intcTick, setPlat_res, setRes_res, BitVec.getLsbD_and, BitVec.getLsbD_or]

/-- Settles O58: one update bit by bit; more of them one after the other. -/
theorem inputSampling : Obligations.InputSampling := by
  refine ⟨fun s S i => ⟨?ioin, ?ioip⟩, fun s S => ⟨_, _, rfl⟩, fun s S more => ⟨rfl, rfl, fun hmore => ?more⟩⟩
  case ioin =>
    have hfollows : (s.res.ioie.getLsbD i.val && (s.res.ioip.getLsbD i.val || s.res.ioius.getLsbD i.val)) = true ↔
        s.res.ioie.getLsbD i.val = true ∧ (s.res.ioip.getLsbD i.val = true ∨ s.res.ioius.getLsbD i.val = true) := by
      rw [Bool.and_eq_true, Bool.or_eq_true]
    rw [getLsbD_ioin_intcTick, ← if_congr hfollows rfl rfl]
    split
    · rename_i h
      rw [h, Bool.true_or, Bool.and_true]
    · rename_i h
      rw [Bool.eq_false_of_not_eq_true h, Bool.false_or, Bool.and_comm]
  case ioip =>
    have hi : decide (i.val < 8) = true := decide_eq_true i.isLt
    simp only [intcTick, setPlat_res, setRes_res, BitVec.getLsbD_and, BitVec.getLsbD_or, BitVec.getLsbD_not, hi,
      Bool.true_and]
  case more =>
    cases more with
    | nil => exact absurd rfl hmore
    | cons S' more => rfl

/-! The highest-priority interrupt (R480). -/

/-- Below the lowest-numbered set bit no bit is set. -/
theorem getLsbD_below_lowestBit {b : Byte} {j : Nat} (hj : j < lowestBit b) : b.getLsbD j = false := by
  rw [lowestBit] at hj
  cases hfind : (List.range 8).find? fun i => b.getLsbD i with
  | none =>
    rw [hfind] at hj
    simpa using List.find?_range_eq_none.1 hfind j hj
  | some n =>
    rw [hfind] at hj
    obtain ⟨-, -, hlower⟩ := List.find?_range_eq_some.1 hfind
    simpa using hlower j hj

theorem getLsbD_lowestBit {b : Byte} (h : lowestBit b < 8) : b.getLsbD (lowestBit b) = true := by
  rw [lowestBit] at h ⊢
  cases hfind : (List.range 8).find? fun i => b.getLsbD i with
  | none => rw [hfind] at h; exact absurd h (Nat.lt_irrefl 8)
  | some n =>
    obtain ⟨hn, -, -⟩ := List.find?_range_eq_some.1 hfind
    exact hn

theorem lowestBit_le {b : Byte} {j : Nat} (hj : b.getLsbD j = true) : lowestBit b ≤ j :=
  Nat.le_of_not_lt fun hlt => Bool.false_ne_true ((getLsbD_below_lowestBit hlt).symm.trans hj)

/-- Where no bit up to `p` is set, the lowest one is above `p`. -/
theorem lt_lowestBit {b : Byte} {p : Fin 8} (hclear : ∀ q : Fin 8, q ≤ p → b.getLsbD q.val = false) :
    p.val < lowestBit b := by
  by_contra hle
  have hbyte : lowestBit b < 8 := Nat.lt_of_le_of_lt (Nat.le_of_not_lt hle) p.isLt
  have hbit := hclear ⟨lowestBit b, hbyte⟩ (Nat.le_of_not_lt hle)
  exact Bool.false_ne_true (hbit.symm.trans (getLsbD_lowestBit hbyte))

theorem lowestBit_eq {b : Byte} {p : Fin 8} (hp : b.getLsbD p.val = true)
    (hlower : ∀ q : Fin 8, q < p → b.getLsbD q.val = false) : lowestBit b = p.val := by
  have hle := lowestBit_le hp
  have hbit := getLsbD_lowestBit (Nat.lt_of_le_of_lt hle p.isLt)
  refine hle.antisymm (Nat.le_of_not_lt fun hlt => ?_)
  exact Bool.false_ne_true ((hlower ⟨lowestBit b, hlt.trans p.isLt⟩ hlt).symm.trans hbit)

/-! Recognition (R480). -/

theorem interruptCandidate_eq_none {u : State} (h : ∀ p : Fin 8, u.res.ioip.getLsbD p.val = true →
    ∃ q : Fin 8, q ≤ p ∧ u.res.ioius.getLsbD q.val = true) : interruptCandidate u = none := by
  unfold interruptCandidate
  simp only []
  split
  · rename_i hlt
    obtain ⟨q, hq, hbit⟩ := h ⟨_, hlt⟩ (getLsbD_lowestBit hlt)
    exact if_neg (Nat.not_lt.2 ((lowestBit_le hbit).trans hq))
  · rfl

theorem interruptCandidate_eq_some {u : State} {p : Fin 8} (hp : u.res.ioip.getLsbD p.val = true)
    (hlower : ∀ q : Fin 8, q < p → u.res.ioip.getLsbD q.val = false)
    (hfree : ∀ q : Fin 8, q ≤ p → u.res.ioius.getLsbD q.val = false) : interruptCandidate u = some p := by
  have hlt : p.val < lowestBit u.res.ioius := lt_lowestBit hfree
  simp [interruptCandidate, lowestBit_eq hp hlower, p.isLt, hlt]

/-- Byte 0 of a group, and nothing that blocks (R480, D30). -/
theorem recognitionPoint_iff (u : State) : recognitionPoint u = true ↔
    u.flow.pc.toNat % 4 = 0 ∧ u.ctl.intBlock = false ∧ u.ctl.stepPending = false := by
  simp [recognitionPoint, byteIndex_eq_iff, and_assoc]

/-- Where `ei`, `di` or `pop mode` was not the instruction just before, the enable is that of `mode` (R66). -/
theorem effectiveEnable_eq {u : State} (h : u.ctl.ieOld = none) : effectiveEnable u = (u.interruptEn, u) := by
  simp [effectiveEnable, h]

theorem recognize_none {u : State} (h : recognitionPoint u = false ∨ interruptCandidate u = none ∨
    (u.ctl.ieOld = none ∧ u.interruptEn = false)) : (recognize u).1 = none := by
  unfold recognize
  split
  · rename_i hpoint
    split
    · rfl
    · rename_i i hcand
      rcases h with hno | hno | ⟨hold, hen⟩
      · exact absurd (hno.symm.trans hpoint) Bool.false_ne_true
      · rw [hno] at hcand; cases hcand
      · rw [effectiveEnable_eq hold, hen]; rfl
  · rfl

theorem recognize_some {u : State} {p : Fin 8} (hpoint : recognitionPoint u = true)
    (hcand : interruptCandidate u = some p) (hold : u.ctl.ieOld = none) (hen : u.interruptEn = true) :
    recognize u = (some p, u) := by
  simp [recognize, hpoint, hcand, effectiveEnable_eq hold, hen]

/-! Entry (R481). -/

/-- The fields that the inputs of a step leave alone (`samplePins_frame`, `takeInput_frame`), with those that the entry
of an interrupt works on besides. -/
structure InputsOnly (s u : State) : Prop where
  flow : u.flow = s.flow
  ctl : u.ctl = s.ctl
  os : u.os = s.os
  ls : u.ls = s.ls
  mode : u.mode = s.mode
  posted : u.plat.posted = s.plat.posted
  bus : u.plat.bus = s.plat.bus
  stuck : u.plat.stuck = s.plat.stuck

theorem InputsOnly.refl (s : State) : InputsOnly s s := ⟨rfl, rfl, rfl, rfl, rfl, rfl, rfl, rfl⟩

theorem InputsOnly.intcTick {s u : State} (h : InputsOnly s u) (S : Byte) : InputsOnly s (intcTick u S) :=
  ⟨h.flow, h.ctl, h.os, h.ls, h.mode, h.posted, h.bus, h.stuck⟩

theorem InputsOnly.samplePins {s u : State} (h : InputsOnly s u) (samples : List Byte) :
    InputsOnly s (samplePins samples u) := by
  unfold Machine.samplePins
  split
  · exact h.intcTick _
  · exact List.foldlRecOn (motive := InputsOnly s) _ Machine.intcTick h fun v hv S _ => hv.intcTick S

theorem takeInput_inputsOnly (s : State) : InputsOnly s (takeInput s).2 := by
  unfold takeInput
  split
  · exact .refl s
  · exact ⟨rfl, rfl, rfl, rfl, rfl, rfl, rfl, rfl⟩

/-- The state right after interrupt `p` is taken on a quiet bus (R481). -/
def State.interrupted (u : State) (p : Fin 8) : State :=
  ((((beginInstr u).setRes { u.res with
      ioip := u.res.ioip &&& ~~~(1#8 <<< p.val), ioius := u.res.ioius ||| (1#8 <<< p.val) }).localsGrown
    (u.flow.pc :: u.ls.cells)).blocked).enteredAt (interruptVector p)

/-- With room for the return address nothing is spilled, and nothing becomes pending. -/
theorem takeInterrupt_eq {u : State} (p : Fin 8) (hq : u.busQuiet) (hpend : u.ctl.pending = []) (hos : u.osWithin)
    (hls : u.ls.cells.length < 15) : takeInterrupt p u = u.interrupted p := by
  obtain ⟨hposted, hbus, hstuck⟩ := hq
  have henter : enterInterrupt p (beginInstr u) = u.interrupted p := enterGroup_quiet _ _ hposted hbus hstuck
  have hsettled : normalizeRaw (u.interrupted p) = u.interrupted p :=
    normalizeRaw_self hos ⟨hls, fun _ => Nat.le_add_left 1 _⟩
  rw [takeInterrupt, henter, hsettled]
  exact takePending_none hpend

/-- A recognized interrupt is a step of its own. -/
theorem runStep_interrupt {u : State} {p : Fin 8} (hg : u.flow.grp ≠ none) (hs : u.plat.stuck = false)
    (hp : u.ctl.pending = []) (hrec : recognize u = (some p, u)) : runStep u = .next (takeInterrupt p u) := by
  have hlatch : latchGroup u = u := by rw [latchGroup, if_neg hg]
  simp [runStep, hlatch, hs, hp, hrec]

/-- A step in which an interrupt is recognized is its entry. -/
theorem step_interrupt {s u : State} {p : Fin 8} (hs : s.plat.stuck = false) (hg : s.flow.grp ≠ none)
    (hr : (takeInput s).1.reset = none) (hu : u = samplePins (takeInput s).1.samples (takeInput s).2)
    (hpend : s.ctl.pending = []) (hq : s.busQuiet) (hos : s.osWithin) (hls : s.ls.cells.length < 15)
    (hrec : recognize u = (some p, u)) : step s = .next (u.interrupted p) := by
  have hin : InputsOnly s u := hu ▸ (takeInput_inputsOnly s).samplePins _
  obtain ⟨hposted, hbus, hstuck⟩ := hq
  have hquiet : u.busQuiet := ⟨hin.posted.trans hposted, hin.bus.trans hbus, hin.stuck.trans hstuck⟩
  have hwithin : u.osWithin := by rwa [State.osWithin, hin.os]
  have hgo : (u.interrupted p).plat.stuck = false := hquiet.2.2
  rw [step_noReset hs hr hu, runStep_interrupt (by rwa [hin.flow]) (hin.stuck.trans hs) (by rw [hin.ctl, hpend]) hrec,
    takeInterrupt_eq p hquiet (by rw [hin.ctl, hpend]) hwithin (by rwa [hin.ls]), finish, andThen_next, hgo]
  rfl

/-- Settles O57: each reason not to recognize an interrupt, and the entry of a recognized one. -/
theorem interruptEntry : Obligations.InterruptEntry := by
  refine ⟨fun u h => recognize_none ?notTaken,
    fun s u g p hs hg hr hu hpend hpc hblock hstep hold hen hreq hlower hfree hq hos hls => ?taken⟩
  case notTaken =>
    have hpoint (hne : ¬ (u.flow.pc.toNat % 4 = 0 ∧ u.ctl.intBlock = false ∧ u.ctl.stepPending = false)) :
        recognitionPoint u = false := Bool.eq_false_of_not_eq_true fun h => hne ((recognitionPoint_iff u).1 h)
    rcases h with hmid | hblocked | hstepping | hdisabled | hserved
    · exact .inl (hpoint fun ⟨hbyte, _, _⟩ => hmid hbyte)
    · exact .inl (hpoint fun ⟨_, hfree, _⟩ => Bool.false_ne_true (hfree.symm.trans hblocked))
    · exact .inl (hpoint fun ⟨_, _, hrun⟩ => Bool.false_ne_true (hrun.symm.trans hstepping))
    · exact .inr (.inr hdisabled)
    · exact .inr (.inl (interruptCandidate_eq_none hserved))
  case taken =>
    have hin : InputsOnly s u := hu ▸ (takeInput_inputsOnly s).samplePins _
    have hpoint : recognitionPoint u = true := by
      rw [recognitionPoint_iff, hin.flow, hin.ctl]
      exact ⟨hpc, hblock, hstep⟩
    have hrec : recognize u = (some p, u) := recognize_some hpoint (interruptCandidate_eq_some hreq hlower hfree)
      (by rw [hin.ctl, hold]) (by rw [State.interruptEn, hin.mode, hen])
    rw [step_interrupt hs (by simp [hg]) hr hu hpend hq hos hls hrec, State.interrupted, hin.flow, hin.ls]

end Sys2Proof.Machine
end
